-- ==== Sys2Proof/Word.lean ====
section
/-! DEFINITION. The words of the block: every value of the spec is an unsigned bit vector of a stated width
(00_scope.md R7, R9); characters are kept in lists. -/

namespace Sys2Proof

/-- A byte: command codes, data bytes, PEC values, address bytes (R7). -/
abbrev Byte := BitVec 8

/-- A 16-bit word: word data, RDATA and the register port's value (R7, R21). -/
abbrev Half := BitVec 16

/-- A downstream device address (R7, R51). -/
abbrev Addr7 := BitVec 7

/-- A command word (R70). -/
abbrev CmdWord := BitVec 40

/-- A finite list of characters: a TX line, or the characters of a response (R6). -/
abbrev Text := List Char

/-- What the RX port delivers: one line without its terminator, or `none` for the timeout (R6 (d)). -/
abbrev Response := Option Text

end Sys2Proof
end

