-- ==== Sys2Proof/Syntax.lean ====
section
/-! DEFINITION. The eleven commands (00_scope.md R2, 30_encoding.md R73), each with the operands R72 gives it. -/

namespace Sys2Proof

/-- A legal command word, decoded: one constructor per row of the opcode table. -/
inductive Instr where
  | nop                                             -- R102
  | setmode (mode : Bool)                           -- R105
  | crcclr                                          -- R103
  | crcbyte (d8 : Byte)                             -- R104
  | rdw (a7 : Addr7) (cmd : Byte)                   -- R136
  | wrw (a7 : Addr7) (cmd : Byte) (d16 : Half)      -- R137
  | rdb (a7 : Addr7) (cmd : Byte)                   -- R138
  | wrb (a7 : Addr7) (cmd : Byte) (d8 : Byte)       -- R139
  | rcv (a7 : Addr7)                                -- R140
  | snd (a7 : Addr7) (d8 : Byte)                    -- R141
  | ara                                             -- R142
deriving DecidableEq, Repr

end Sys2Proof
end

