-- ==== Sys2Proof/Decode.lean ====
section
/-! DEFINITION. The decoder of command words, total on all 40-bit values (30_encoding.md R70 to R76), and the encoder
(R71, R77). -/

namespace Sys2Proof

/-! ### Fields of the command word (R71, R72) -/

/-- OPC, bits 39:32. -/
def opcOf (w : CmdWord) : Byte := w.extractLsb' 32 8

/-- R, bit 31, reserved. -/
def rOf (w : CmdWord) : Bool := w.getLsbD 31

/-- A7, bits 30:24. -/
def a7Of (w : CmdWord) : Addr7 := w.extractLsb' 24 7

/-- CMD, bits 23:16. -/
def cmdOf (w : CmdWord) : Byte := w.extractLsb' 16 8

/-- D16, bits 15:0. -/
def d16Of (w : CmdWord) : Half := w.extractLsb' 0 16

/-- `d8 = w[7:0]`, for WRB, SND and CRCBYTE (R72). -/
def d8Of (w : CmdWord) : Byte := w.extractLsb' 0 8

/-- `mode = w[0]`, for SETMODE (R72). -/
def modeOf (w : CmdWord) : Bool := w.getLsbD 0

/-! ### Decoding -/

/-- One row of R74: the word selects the mnemonic exactly when `(w & mask) == match`; `build` reads the operands. -/
structure Row where
  mnemonic : String
  mask     : CmdWord
  pattern  : CmdWord
  build    : CmdWord → Instr

/-- `(w & mask) == match` (R74). -/
def Row.selects (r : Row) (w : CmdWord) : Bool := (w &&& r.mask) == r.pattern

/-- The opcode map with masks (R73, R74), operands as in R72. -/
def table : List Row := [
  ⟨"NOP",     0xFFFFFFFFFF, 0x0000000000, fun _ => .nop⟩,
  ⟨"SETMODE", 0xFFFFFFFFFE, 0x0100000000, fun w => .setmode (modeOf w)⟩,
  ⟨"CRCCLR",  0xFFFFFFFFFF, 0x0200000000, fun _ => .crcclr⟩,
  ⟨"CRCBYTE", 0xFFFFFFFF00, 0x0300000000, fun w => .crcbyte (d8Of w)⟩,
  ⟨"RDW",     0xFF8000FFFF, 0x1000000000, fun w => .rdw (a7Of w) (cmdOf w)⟩,
  ⟨"WRW",     0xFF80000000, 0x1100000000, fun w => .wrw (a7Of w) (cmdOf w) (d16Of w)⟩,
  ⟨"RDB",     0xFF8000FFFF, 0x1200000000, fun w => .rdb (a7Of w) (cmdOf w)⟩,
  ⟨"WRB",     0xFF8000FF00, 0x1300000000, fun w => .wrb (a7Of w) (cmdOf w) (d8Of w)⟩,
  ⟨"RCV",     0xFF80FFFFFF, 0x1400000000, fun w => .rcv (a7Of w)⟩,
  ⟨"SND",     0xFF80FFFF00, 0x1500000000, fun w => .snd (a7Of w) (d8Of w)⟩,
  ⟨"ARA",     0xFFFFFFFFFF, 0x1600000000, fun _ => .ara⟩]

/-- Why a word is illegal: the two cases of R76. -/
inductive IllegalWord where
  | reservedOpcode   -- case (a): OPC is not in the opcode map
  | mustBeZero       -- case (b): OPC is listed, but a must-be-zero bit is set
deriving DecidableEq, Repr

/-- `Command | Illegal` (R75). -/
inductive Decoded where
  | command (i : Instr)
  | illegal (why : IllegalWord)
deriving DecidableEq, Repr

/-- OPC is in the opcode map of R73. -/
def opcListed (opc : Byte) : Bool := table.any fun r => opcOf r.pattern == opc

/-- `decode(w)` (R75): the first row that selects `w`, else Illegal, with R76's reason. -/
def decode (w : CmdWord) : Decoded :=
  match table.find? (fun r => r.selects w) with
  | some r => .command (r.build w)
  | none   => .illegal (if opcListed (opcOf w) then .mustBeZero else .reservedOpcode)

/-! ### Encoding -/

/-- `(OPC << 32) | (a7 << 24) | (cmd << 16) | d` (R77). -/
def packWord (opc : Byte) (a7 : Addr7) (cmd : Byte) (d : Half) : CmdWord :=
  (opc.setWidth 40 <<< 32) ||| (a7.setWidth 40 <<< 24) ||| (cmd.setWidth 40 <<< 16) ||| d.setWidth 40

/-- The opcode of R73. -/
def Instr.opc : Instr → Byte
  | .nop => 0x00
  | .setmode _ => 0x01
  | .crcclr => 0x02
  | .crcbyte _ => 0x03
  | .rdw _ _ => 0x10
  | .wrw _ _ _ => 0x11
  | .rdb _ _ => 0x12
  | .wrb _ _ _ => 0x13
  | .rcv _ => 0x14
  | .snd _ _ => 0x15
  | .ara => 0x16

/-- The word of a command, with the fields absent from its syntax set to 0 (R77). -/
def encode (i : Instr) : CmdWord :=
  match i with
  | .nop => packWord i.opc 0 0 0
  | .setmode mode => packWord i.opc 0 0 (BitVec.ofBool mode |>.setWidth 16)
  | .crcclr => packWord i.opc 0 0 0
  | .crcbyte d8 => packWord i.opc 0 0 (d8.setWidth 16)
  | .rdw a7 cmd => packWord i.opc a7 cmd 0
  | .wrw a7 cmd d16 => packWord i.opc a7 cmd d16
  | .rdb a7 cmd => packWord i.opc a7 cmd 0
  | .wrb a7 cmd d8 => packWord i.opc a7 cmd (d8.setWidth 16)
  | .rcv a7 => packWord i.opc a7 0 0
  | .snd a7 d8 => packWord i.opc a7 0 (d8.setWidth 16)
  | .ara => packWord i.opc 0 0 0

/-! ### The host's reading of a table word -/

/-- A word of `nbits` bits given as a number, bit 0 the least significant; a word with a set bit above bit 39 is no
command word (R70; log 15). -/
def wordOfBits (nbits w : Nat) : Option CmdWord :=
  let v := w % 2 ^ nbits
  if v < 2 ^ 40 then some (BitVec.ofNat 40 v) else none

/-- What the decoder reads from a word numbered as the opcode table numbers it. -/
def decodeTableWord (nbits w : Nat) : Option Instr :=
  match wordOfBits nbits w with
  | none => none
  | some v =>
    match decode v with
    | .command i => some i
    | .illegal _ => none

end Sys2Proof
end

