-- ==== Sys2Proof/Machine/Hex.lean ====
section
/-! DEFINITION. Hex spelling of bytes on TX and the character classes on RX (20_memory.md R54, 42_error_flag_decoder.md R173). -/

namespace Sys2Proof.Machine

/-- A hex digit on RX is one of `0`-`9`, `A`-`F` or `a`-`f` (R54, R173). -/
def isHexDigit (c : Char) : Bool :=
  ('0' ≤ c && c ≤ '9') || ('A' ≤ c && c ≤ 'F') || ('a' ≤ c && c ≤ 'f')

/-- The value of a hex digit, in either case (R54). Asked only of hex digits. -/
def hexVal (c : Char) : BitVec 4 :=
  if 'a' ≤ c then BitVec.ofNat 4 (c.toNat - 'a'.toNat + 10)
  else if 'A' ≤ c then BitVec.ofNat 4 (c.toNat - 'A'.toNat + 10)
  else BitVec.ofNat 4 (c.toNat - '0'.toNat)

/-- The TX spelling of a nibble: 10 to 15 are written `A` to `F`, in upper case (R54). -/
def hexDigit (v : BitVec 4) : Char :=
  ['0', '1', '2', '3', '4', '5', '6', '7', '8', '9', 'A', 'B', 'C', 'D', 'E', 'F'].getD v.toNat '0'

/-- `hex2(b)`: the high nibble first, the low nibble second (R54). -/
def hex2 (b : Byte) : Text :=
  [hexDigit (b.extractLsb' 4 4), hexDigit (b.extractLsb' 0 4)]

/-- `byte(c1, c2) = {val(c1), val(c2)}`, with `c1` high (R54). -/
def byteOf (c1 c2 : Char) : Byte := hexVal c1 ++ hexVal c2

end Sys2Proof.Machine
end

