-- ==== Sys2Proof/Config.lean ====
section
/-! DEFINITION. The implementation parameters of 00_scope.md R8 and the model's free values. -/

namespace Sys2Proof

/-- `TokenMap`: the string and character parameters, all OPEN in the source (R8, D12, D13). -/
structure TokenMap where
  tokStart    : Text
  tokRstart   : Text
  tokStop     : Text
  tokSend     : Text
  tokRecv     : Text
  tokRecvLast : Text
  tokEol      : Text
  nackCh      : Char
  offlineCh   : Char
deriving DecidableEq, Repr

/-- The side conditions of R8: every token but `TOK_SEND` is non-empty, neither sentinel is a hex digit, and the
two differ. -/
def TokenMap.wf (t : TokenMap) : Bool :=
  !t.tokStart.isEmpty && !t.tokRstart.isEmpty && !t.tokStop.isEmpty && !t.tokRecv.isEmpty &&
  !t.tokRecvLast.isEmpty && !t.tokEol.isEmpty &&
  !Machine.isHexDigit t.nackCh && !Machine.isHexDigit t.offlineCh && t.nackCh != t.offlineCh

/-- `PEC_READ_COVERAGE` (R8, D10, 90_conflicts.md C3). -/
inductive PecReadCoverage where
  | both
  | writeAddrOnly
deriving DecidableEq, Repr

/-- The parameters of R8 that the untimed model uses. `T_RESP` is not among them: it shows only as the response
`none` (R212, log 14). -/
structure Params where
  tokens          : TokenMap
  araAddr7        : Addr7
  crcInit         : Byte
  pecReadCoverage : PecReadCoverage
  pecEnAtReset    : Bool
deriving DecidableEq, Repr

/-- A `TokenMap` that meets R8's side conditions. The default only shows that one exists; nothing is proved of it. -/
structure OpenTokens where
  tokens : TokenMap := ⟨['S'], ['R'], ['P'], [], ['Q'], ['L'], ['.'], 'N', 'O'⟩
  ok     : tokens.wf = true := by decide
deriving DecidableEq, Repr, Inhabited

/-- The machine's own token strings and sentinels: OPEN (R8, D12, D13), so a free value of which only R8's side
conditions are known. DESIGN CHOICE (log 2), safe. -/
opaque Config.openTokens : OpenTokens

/-- The free value of a read of RDATA while RVALID = 0 (R26, 93 I1), one for each draw. DESIGN CHOICE (log 5), safe. -/
opaque Config.rdataDraw : Nat → Half

/-- The value RDATA is given at reset, where R34 leaves it unspecified. DESIGN CHOICE (log 4), unsafe; no register
read shows it, since RVALID = 0 then. -/
def Config.rdataAtReset : Half := 0x0000

/-- The machine's parameters: the OPEN ones free, the others at the defaults of R8 (D9, D10, D18, D22; log 3). -/
def Config.params : Params where
  tokens          := Config.openTokens.tokens
  araAddr7        := 0x0C
  crcInit         := 0x00
  pecReadCoverage := .both
  pecEnAtReset    := false

end Sys2Proof
end

