-- ==== Sys2Proof/Machine/State.lean ====
section
/-! DEFINITION. The state of the block (10_state.md) and of the two agents around it (00_scope.md R5), as plain data,
and its value at reset (R34). -/

namespace Sys2Proof.Machine

/-- The seven bus commands, `TXN.op` (R29). -/
inductive BusOp where
  | rdw | wrw | rdb | wrb | rcv | snd | ara
deriving DecidableEq, Repr

/-- TXN, the captured transaction (R29). -/
structure Txn where
  op   : BusOp
  a7   : Addr7
  cmd  : Byte
  d16  : Half
  pec  : Bool        -- CONFIG.PEC_EN at issue
  cb   : List Byte   -- covered TX bytes (R133)
  n    : Nat         -- data bytes the response carries
  m    : Nat         -- bytes the transaction requests from the bridge
  line : Text        -- the TX line
deriving DecidableEq, Repr

/-- PHASE, carrying TXN, which exists exactly while PHASE ≠ IDLE (R29; log 12). -/
inductive Phase where
  | idle
  | framed (t : Txn)
  | awaitingResponse (t : Txn)
deriving DecidableEq, Repr

/-- STATUS.OUTCOME (R200): the eight codes that are ever written. -/
inductive OutcomeCode where
  | none | complete | notAcked | bridgeOffline | pecMismatch | desync | timeout | illegal
deriving DecidableEq, Repr

/-- What the host can do at the block's interfaces (R5 (a), R6). -/
inductive HostAct where
  | command (w : CmdWord)       -- write one command word
  | readRegister (index : Byte) -- read the register port
  | reset                       -- assert the reset input
deriving DecidableEq, Repr

/-- The three agents (R5). -/
inductive Agent where
  | host | block | bridge
deriving DecidableEq, Repr

/-- The whole machine. STATUS and CONFIG are read whole through `statusWord` and `configWord` (log 12). -/
structure State where
  phase     : Phase             -- PHASE and TXN (R29)
  pecEn     : Bool              -- CONFIG.PEC_EN (R22)
  offline   : Bool              -- STATUS.OFFLINE (R31)
  rvalid    : Bool              -- STATUS.RVALID (R23)
  araNone   : Bool              -- STATUS.ARA_NONE (R23)
  ovr       : Bool              -- STATUS.OVR (R241)
  outcome   : OutcomeCode       -- STATUS.OUTCOME (R200)
  err       : Byte              -- ERR (R25)
  rdata     : Half              -- RDATA (R26)
  crc       : Byte              -- CRC (R27)
  txlog     : List Text         -- TXLOG, oldest first (R32)
  rxlog     : List Response     -- RXLOG, oldest first (R32)
  hostFault : Bool              -- the model's record of a broken host duty (R241; log 10)
  reads     : List (Byte × Half) -- what the host's register reads returned, oldest first (log 11)
  draws     : Nat               -- free values drawn so far for RDATA (R26; log 5)
  hostActs  : List HostAct      -- the host's acts still to come, next first (R28; log 7)
  bridge    : List Response     -- what the channel has still to deliver, next first (R170; log 7)
  turns     : List Agent        -- who moves next; after it, the natural order (log 7)
  params    : Params            -- the parameters of R8, never changed (log 1)
deriving DecidableEq, Repr

/-- Reasons for the machine to stop: none. Every command word, act and response has an effect in the spec, the block
does not trap (R202), and a broken host duty is recorded in State (R241; logs 10, 17). No constructor, so nobody
raises one: safe. -/
inductive Fault where
deriving DecidableEq, Repr

/-- Reasons to refuse an instruction. -/
inductive Refusal where
  /-- Raised by an arm of `exec` that has no meaning yet; no arm is so. Safe. -/
  | notModelled (mnemonic : String)
deriving DecidableEq, Repr

/-- The machine right after reset (R34), with nothing in the queues of host and bridge and both logs empty, as a run
starts. RDATA's value is the model's (log 4); the OPEN parameters are free (log 2). -/
def State.reset : State where
  phase     := .idle
  pecEn     := Config.params.pecEnAtReset
  offline   := false
  rvalid    := false
  araNone   := false
  ovr       := false
  outcome   := .none
  err       := 0x00
  rdata     := Config.rdataAtReset
  crc       := Config.params.crcInit
  txlog     := []
  rxlog     := []
  hostFault := false
  reads     := []
  draws     := 0
  hostActs  := []
  bridge    := []
  turns     := []
  params    := Config.params

end Sys2Proof.Machine
end

