-- ==== Sys2Proof/Machine/Flags.lean ====
section
/-! DEFINITION. The registers the host sees as words: STATUS, ERR and CONFIG (10_state.md R22 to R25, 60_exceptions.md
R200). -/

namespace Sys2Proof.Machine

/-- BUSY: 1 exactly when PHASE ≠ IDLE (R23). -/
def State.busy (s : State) : Bool :=
  match s.phase with
  | .idle => false
  | .framed _ => true
  | .awaitingResponse _ => true

/-- TXN, or none while PHASE = IDLE (R29). -/
def State.txn (s : State) : Option Txn :=
  match s.phase with
  | .idle => none
  | .framed t => some t
  | .awaitingResponse t => some t

/-- PHASE as STATUS bits 2:1 show it (R23). -/
def phaseCode : Phase → BitVec 2
  | .idle => 0b00
  | .framed _ => 0b01
  | .awaitingResponse _ => 0b10

/-- The code of an outcome (R200). -/
def outcomeCode : OutcomeCode → BitVec 4
  | .none => 0
  | .complete => 1
  | .notAcked => 2
  | .bridgeOffline => 3
  | .pecMismatch => 4
  | .desync => 5
  | .timeout => 6
  | .illegal => 7

/-- `onehot(OUTCOME)`: E_NACK, E_OFFLINE, E_PEC, E_DESYNC, E_TIMEOUT and E_ILLEGAL are bits 0 to 5 (R25). -/
def errFlag : OutcomeCode → Byte
  | .none => 0x00
  | .complete => 0x00
  | .notAcked => 0x01
  | .bridgeOffline => 0x02
  | .pecMismatch => 0x04
  | .desync => 0x08
  | .timeout => 0x10
  | .illegal => 0x20

/-- STATUS, bits 15 down to 0: reserved, OUTCOME, OVR, ARA_NONE, RVALID, OFFLINE, PEC_EN, PHASE, BUSY (R23). -/
def statusWord (s : State) : Half :=
  (0#4 : BitVec 4) ++ outcomeCode s.outcome ++ BitVec.ofBool s.ovr ++ BitVec.ofBool s.araNone ++
  BitVec.ofBool s.rvalid ++ BitVec.ofBool s.offline ++ BitVec.ofBool s.pecEn ++ phaseCode s.phase ++
  BitVec.ofBool s.busy

/-- CONFIG: bit 0 is PEC_EN, bits 7:1 read 0 (R22). -/
def configWord (s : State) : Byte := (BitVec.ofBool s.pecEn).setWidth 8

end Sys2Proof.Machine
end

