-- ==== Sys2Proof/Machine/Crc.lean ====
section
/-! DEFINITION. The checksum unit: CRC-8 with polynomial 0x07, MSB first (40_control_and_crc.md R100, R56). -/

namespace Sys2Proof.Machine

/-- One shift and compare cycle: shift left, and subtract the polynomial when bit 7 was set (R100). -/
def crcShift (c : Byte) : Byte :=
  if c.getLsbD 7 then (c <<< 1) ^^^ 0x07 else c <<< 1

/-- `crc8_step(c, b)`: fold in the byte, then 8 cycles (R100). -/
def crc8Step (c b : Byte) : Byte := crcShift^[8] (c ^^^ b)

/-- `crc8(init, bytes)`, the bytes in order (R100). -/
def crc8 (init : Byte) (bytes : List Byte) : Byte := bytes.foldl crc8Step init

end Sys2Proof.Machine
end

