-- ==== Sys2Proof/Machine/Operands.lean ====
section
/-! DEFINITION. What a bus command's operands stand for: address bytes, the bytes of a word, the number of data bytes,
and the bytes its PEC covers (20_memory.md R51, R55, 41_frame_enumerator.md R133). -/

namespace Sys2Proof.Machine

/-- `aw = {a7, 0}`, the write address byte (R51). -/
def writeAddr (a7 : Addr7) : Byte := a7.setWidth 8 <<< 1

/-- `ar = {a7, 1}`, the read address byte (R51). -/
def readAddr (a7 : Addr7) : Byte := (a7.setWidth 8 <<< 1) ||| 1

/-- `lo = d16[7:0]`, which is also `d8` (R133). -/
def loByte (d16 : Half) : Byte := d16.extractLsb' 0 8

/-- `hi = d16[15:8]` (R133). -/
def hiByte (d16 : Half) : Byte := d16.extractLsb' 8 8

/-- `{hi, lo}` (R55). -/
def wordOf (hi lo : Byte) : Half := hi ++ lo

/-- `ara_r = {ARA_ADDR7, 1}` (R133). -/
def araReadAddr (p : Params) : Byte := readAddr p.araAddr7

/-- `ndata`: how many data bytes the response carries (R133). -/
def ndata : BusOp → Nat
  | .rdw => 2
  | .wrw => 0
  | .rdb => 1
  | .wrb => 0
  | .rcv => 1
  | .snd => 0
  | .ara => 1

/-- The bytes covered of a read with a command code, by `PEC_READ_COVERAGE` (R133, D10). -/
def coveredRead (p : Params) (a7 : Addr7) (cmd : Byte) : List Byte :=
  match p.pecReadCoverage with
  | .both => [writeAddr a7, cmd, readAddr a7]
  | .writeAddrOnly => [writeAddr a7, cmd]

/-- `covered`: the TX bytes that the transaction's PEC is computed over, in wire order (R133). -/
def covered (p : Params) (op : BusOp) (a7 : Addr7) (cmd : Byte) (d16 : Half) : List Byte :=
  match op with
  | .wrw => [writeAddr a7, cmd, loByte d16, hiByte d16]
  | .wrb => [writeAddr a7, cmd, loByte d16]
  | .snd => [writeAddr a7, loByte d16]
  | .rdw => coveredRead p a7 cmd
  | .rdb => coveredRead p a7 cmd
  | .rcv => [readAddr a7]
  | .ara => [araReadAddr p]

/-- `m`: the data bytes, and one PEC byte for a checked read (R131). -/
def nrequested (op : BusOp) (pec : Bool) : Nat :=
  ndata op + if pec && decide (0 < ndata op) then 1 else 0

end Sys2Proof.Machine
end

