-- ==== Sys2Proof/Machine/Frame.lean ====
section
/-! DEFINITION. The frame enumerator: the symbols of a transaction, their spelling as one TX line, and the captured
transaction (41_frame_enumerator.md R131, R134, R136 to R143). -/

namespace Sys2Proof.Machine

/-- A TX element (R134). -/
inductive Symbol where
  | start
  | rstart
  | send (b : Byte)
  | recv
  | recvLast
  | stop
deriving DecidableEq, Repr

/-- `recvs(m)` for `m ≥ 1`: `m-1` RECV and one RECV_LAST (R143). Never applied to a write. -/
def recvs (m : Nat) : List Symbol := List.replicate (m - 1) .recv ++ [.recvLast]

/-- The PEC byte that ends a checked write: the CRC of all its covered bytes (R133, R137). -/
def pecSend (p : Params) (pec : Bool) (cb : List Byte) : List Symbol :=
  if pec then [.send (crc8 p.crcInit cb)] else []

/-- The symbols of a read with a command code: write phase, repeated start, read phase (R136, R138). -/
def readSymbols (a7 : Addr7) (cmd : Byte) (m : Nat) : List Symbol :=
  [.start, .send (writeAddr a7), .send cmd, .rstart, .send (readAddr a7)] ++ recvs m ++ [.stop]

/-- `symbols(TXN)`, per operation (R136 to R142). -/
def symbols (p : Params) (op : BusOp) (a7 : Addr7) (cmd : Byte) (d16 : Half) (pec : Bool) : List Symbol :=
  let pecPart := pecSend p pec (covered p op a7 cmd d16)
  let m := nrequested op pec
  match op with
  | .rdw => readSymbols a7 cmd m
  | .wrw => [.start, .send (writeAddr a7), .send cmd, .send (loByte d16), .send (hiByte d16)] ++ pecPart ++ [.stop]
  | .rdb => readSymbols a7 cmd m
  | .wrb => [.start, .send (writeAddr a7), .send cmd, .send (loByte d16)] ++ pecPart ++ [.stop]
  | .rcv => [.start, .send (readAddr a7)] ++ recvs m ++ [.stop]
  | .snd => [.start, .send (writeAddr a7), .send (loByte d16)] ++ pecPart ++ [.stop]
  | .ara => [.start, .send (araReadAddr p)] ++ recvs m ++ [.stop]

/-- `tok(s)`: the characters of one symbol (R134). -/
def tok (t : TokenMap) : Symbol → Text
  | .start => t.tokStart
  | .rstart => t.tokRstart
  | .send b => t.tokSend ++ hex2 b
  | .recv => t.tokRecv
  | .recvLast => t.tokRecvLast
  | .stop => t.tokStop

/-- `spell`: the symbols' characters in order, then `TOK_EOL` (R134). -/
def spell (t : TokenMap) (ss : List Symbol) : Text := ss.flatMap (tok t) ++ t.tokEol

/-- TXN as the issue of a bus command fills it (R131). -/
def capture (p : Params) (op : BusOp) (a7 : Addr7) (cmd : Byte) (d16 : Half) (pec : Bool) : Txn where
  op   := op
  a7   := a7
  cmd  := cmd
  d16  := d16
  pec  := pec
  cb   := covered p op a7 cmd d16
  n    := ndata op
  m    := nrequested op pec
  line := spell p.tokens (symbols p op a7 cmd d16 pec)

end Sys2Proof.Machine
end

