-- ==== Sys2Proof/Machine/Response.lean ====
section
/-! DEFINITION. The error-flag decoder: it classifies one response into exactly one result (42_error_flag_decoder.md R171
to R179). -/

namespace Sys2Proof.Machine

/-- The classifications of R174, NO_RESPONDER among them (R181). -/
inductive Result where
  | complete | noResponder | notAcked | bridgeOffline | pecMismatch | desync | timeout
deriving DecidableEq, Repr

/-- What `decode(TXN, resp)` returns: `(res, data, offlineSeen, crcOut)` (R170, R174). -/
structure Classified where
  res         : Result
  data        : List Byte
  offlineSeen : Bool
  crcOut      : Byte
deriving DecidableEq, Repr

/-- The hex tokens of a list of characters, two characters each, back to back (R171). -/
def tokenBytes : Text → List Byte
  | c1 :: c2 :: rest => byteOf c1 c2 :: tokenBytes rest
  | _ => []

/-- `E`, the expected region: the first `2m` characters (R171). -/
def expectedRegion (t : Txn) (r : Text) : Text := r.take (2 * t.m)

/-- `X`, the additional unread characters (R171). -/
def remainder (t : Txn) (r : Text) : Text := r.drop (2 * t.m)

/-- `full`: the expected region is complete and all hex digits (R171). -/
def regionFull (t : Txn) (r : Text) : Bool :=
  decide ((expectedRegion t r).length = 2 * t.m) && (expectedRegion t r).all isHexDigit

/-- `data`: the first `n` tokens of a full region, else nothing (R171). -/
def responseData (t : Txn) (r : Text) : List Byte :=
  if regionFull t r then (tokenBytes (expectedRegion t r)).take t.n else []

/-- `p`: the token after the `n` data tokens (R174, R175). Asked only where the region is full and holds it. -/
def receivedPec (t : Txn) (r : Text) : Byte := (tokenBytes (expectedRegion t r)).getD t.n 0

/-- `crcOut`: over covered bytes and data when the region is full, over the covered bytes otherwise (R174, R182). -/
def crcAfter (p : Params) (t : Txn) (r : Text) : Byte :=
  if regionFull t r then crc8 p.crcInit (t.cb ++ responseData t r) else crc8 p.crcInit t.cb

/-- `offlineSeen`: `OFFLINE_CH` stands anywhere in the response (R172). -/
def sawOffline (p : Params) (r : Text) : Bool := r.contains p.tokens.offlineCh

/-- `NACK_CH` stands anywhere in the response (R174 step 3). -/
def sawNack (p : Params) (r : Text) : Bool := r.contains p.tokens.nackCh

/-- Steps 1 to 7 of R174 on a response of characters: the first test that holds decides. -/
def classifyText (p : Params) (t : Txn) (r : Text) : Classified :=
  let crcOut := crcAfter p t r
  let data := responseData t r
  if t.pec && decide (0 < t.n) && regionFull t r && receivedPec t r != crcOut then
    ⟨.pecMismatch, data, sawOffline p r, crcOut⟩
  else if sawOffline p r then ⟨.bridgeOffline, [], true, crcOut⟩
  else if sawNack p r then
    ⟨if t.op = .ara then .noResponder else .notAcked, [], false, crcOut⟩
  else if (expectedRegion t r).length < 2 * t.m then ⟨.timeout, [], false, crcOut⟩
  else if !regionFull t r then ⟨.desync, [], false, crcOut⟩
  else if remainder t r ≠ [] then ⟨.desync, data, false, crcOut⟩
  else ⟨.complete, data, false, crcOut⟩

/-- `decode(TXN, resp)` (R174): step 0 is the timeout. -/
def classify (p : Params) (t : Txn) (resp : Response) : Classified :=
  match resp with
  | none => ⟨.timeout, [], false, crc8 p.crcInit t.cb⟩
  | some r => classifyText p t r

end Sys2Proof.Machine
end

