-- ==== Sys2Proof/Machine/Ops.lean ====
section
/-! DEFINITION. The shared operations every command is made of: reporting an outcome, acceptance, issue, transmit,
response, reset and the register port. The block does not trap; reporting an outcome stands in its place (60_exceptions.md
R202). -/

namespace Sys2Proof.Machine

/-- What a command word ends in. -/
abbrev StepResult := Host.Outcome State Fault Refusal

/-! ### Outcomes -/

/-- `raise o` (R10): OUTCOME is written, and with it ERR, to `onehot(OUTCOME)` (R25). -/
def report (o : OutcomeCode) (s : State) : State := { s with outcome := o, err := errFlag o }

/-- `RVALID <- 0; ARA_NONE <- 0`, at every bus command (R131, R132). -/
def clearResult (s : State) : State := { s with rvalid := false, araNone := false }

/-! ### Acceptance -/

/-- A word written while BUSY = 1: it is dropped and OVR is set; the broken host duty is recorded (R241; log 10). -/
def dropWord (s : State) : State := { s with ovr := true, hostFault := true }

/-- A word is accepted only when PHASE = IDLE (R130, R203 (a) 1); `body` is what it then does. -/
def accept (body : State → State) (s : State) : StepResult := .next (if s.busy then dropWord s else body s)

/-- An illegal word, once accepted: `raise ILLEGAL` and nothing else (R204). -/
def illegalWord (s : State) : State := report .illegal s

/-! ### Bus commands -/

/-- Issue of a bus command (R131): IDLE → FRAMED. -/
def issue (op : BusOp) (a7 : Addr7) (cmd : Byte) (d16 : Half) (s : State) : State :=
  let t := capture s.params op a7 cmd d16 s.pecEn
  report .none { clearResult s with crc := crc8 s.params.crcInit t.cb, phase := .framed t }

/-- A bus command while OFFLINE = 1 (R132). -/
def offlineRefusal (s : State) : State := report .bridgeOffline (clearResult s)

/-- A legal bus command, once accepted (R203 (a) 3 and 4). -/
def busCommand (op : BusOp) (a7 : Addr7) (cmd : Byte) (d16 : Half) (s : State) : State :=
  if s.offline then offlineRefusal s else issue op a7 cmd d16 s

/-- Transmit (R135): in FRAMED the line goes to TXLOG and PHASE to AWAITING_RESPONSE. In another phase the block has
no step of its own, and nothing changes (log 9). -/
def transmit (s : State) : State :=
  match s.phase with
  | .framed t => { s with phase := .awaitingResponse t, txlog := s.txlog ++ [t.line] }
  | .idle => s
  | .awaitingResponse _ => s

/-- The value a completed transaction returns in RDATA, none for a write (R180). -/
def readValue (op : BusOp) (data : List Byte) : Option Half :=
  match op with
  | .rdw => some (wordOf (data.getD 1 0) (data.getD 0 0))
  | .rdb => some ((data.getD 0 0).setWidth 16)
  | .rcv => some ((data.getD 0 0).setWidth 16)
  | .ara => some ((data.getD 0 0 >>> 1).setWidth 16)
  | .wrw => none
  | .wrb => none
  | .snd => none

/-- `apply res`: RDATA, RVALID, ARA_NONE, OUTCOME and ERR (R180, R181). -/
def applyResult (op : BusOp) (res : Result) (data : List Byte) (s : State) : State :=
  match res with
  | .complete =>
    match readValue op data with
    | some v => report .complete { s with rdata := v, rvalid := true, araNone := false }
    | none => report .complete (clearResult s)
  | .noResponder => report .complete { s with rvalid := false, araNone := true }
  | .notAcked => report .notAcked (clearResult s)
  | .bridgeOffline => report .bridgeOffline (clearResult s)
  | .pecMismatch => report .pecMismatch (clearResult s)
  | .desync => report .desync (clearResult s)
  | .timeout => report .timeout (clearResult s)

/-- What the response step writes before the result is applied: RXLOG, CRC, OFFLINE, PHASE and TXN (R170). -/
def closeTransaction (resp : Response) (c : Classified) (s : State) : State :=
  { s with rxlog := s.rxlog ++ [resp], crc := c.crcOut, offline := s.offline || c.offlineSeen, phase := .idle }

/-- Response (R170): in AWAITING_RESPONSE the response is decoded and applied, and PHASE returns to IDLE. In another
phase no step consumes a response (R230), and nothing changes (log 9). -/
def respond (resp : Response) (s : State) : State :=
  match s.phase with
  | .awaitingResponse t =>
    let c := classify s.params t resp
    applyResult t.op c.res c.data (closeTransaction resp c s)
  | .idle => s
  | .framed _ => s

/-! ### Reset and the register port -/

/-- The reset input (R230): every piece of the block's state to its value of R34, whatever the phase. The logs stay
(R32, R34), and so do the record of a host fault (R241; log 10) and what belongs to the other agents. -/
def assertReset (s : State) : State :=
  { s with
    phase   := .idle
    pecEn   := s.params.pecEnAtReset
    offline := false
    rvalid  := false
    araNone := false
    ovr     := false
    outcome := .none
    err     := 0x00
    rdata   := Config.rdataAtReset
    crc     := s.params.crcInit }

/-- The index reads RDATA while RVALID = 0: the read has no value of its own (R26). -/
def drawsValue (index : Byte) (s : State) : Bool := decide (index = 0x02) && !s.rvalid

/-- The value the register port returns (R21). RDATA while RVALID = 0 gives a free value (R26, 93 I1; log 5);
reserved indices give 0x0000 (D5). -/
def readPort (index : Byte) (s : State) : Half :=
  if index = 0x00 then statusWord s
  else if index = 0x01 then s.err.setWidth 16
  else if index = 0x02 then (if s.rvalid then s.rdata else Config.rdataDraw s.draws)
  else if index = 0x03 then s.crc.setWidth 16
  else if index = 0x04 then (configWord s).setWidth 16
  else 0x0000

/-- The host reads a register: no state of the block changes (R21); the host keeps the value (log 11), and a free
value once drawn is not drawn again (log 5). -/
def readRegister (index : Byte) (s : State) : State :=
  { s with
    reads := s.reads ++ [(index, readPort index s)]
    draws := s.draws + if drawsValue index s then 1 else 0 }

end Sys2Proof.Machine
end

