-- ==== Sys2Proof/Machine/Bus.lean ====
section
/-! DEFINITION. The seven bus commands (41_frame_enumerator.md R136 to R142): each is issued here; its transmission and
its response are steps of the block and of the bridge (70_reset_and_hazards.md R250). Fields that a command does not have
are zero in its word, and so in TXN (30_encoding.md R74; log 16). -/

namespace Sys2Proof.Machine

/-- RDW: read word (R136). -/
def execRdw (a7 : Addr7) (cmd : Byte) (s : State) : StepResult := accept (busCommand .rdw a7 cmd 0) s

/-- WRW: write word (R137). -/
def execWrw (a7 : Addr7) (cmd : Byte) (d16 : Half) (s : State) : StepResult := accept (busCommand .wrw a7 cmd d16) s

/-- RDB: read byte (R138). -/
def execRdb (a7 : Addr7) (cmd : Byte) (s : State) : StepResult := accept (busCommand .rdb a7 cmd 0) s

/-- WRB: write byte (R139). -/
def execWrb (a7 : Addr7) (cmd : Byte) (d8 : Byte) (s : State) : StepResult :=
  accept (busCommand .wrb a7 cmd (d8.setWidth 16)) s

/-- RCV: receive byte (R140). -/
def execRcv (a7 : Addr7) (s : State) : StepResult := accept (busCommand .rcv a7 0 0) s

/-- SND: send byte (R141). -/
def execSnd (a7 : Addr7) (d8 : Byte) (s : State) : StepResult := accept (busCommand .snd a7 0 (d8.setWidth 16)) s

/-- ARA: alert-response probe (R142). -/
def execAra (s : State) : StepResult := accept (busCommand .ara 0 0 0) s

end Sys2Proof.Machine
end

