-- ==== Sys2Proof/Machine/Local.lean ====
section
/-! DEFINITION. The four local commands (40_control_and_crc.md). They never touch the bus, and run while OFFLINE = 1. -/

namespace Sys2Proof.Machine

/-- NOP (R102). -/
def execNop (s : State) : StepResult := accept (report .complete) s

/-- SETMODE (R105): `CONFIG.PEC_EN <- mode`. -/
def execSetmode (mode : Bool) (s : State) : StepResult :=
  accept (fun s => report .complete { s with pecEn := mode }) s

/-- CRCCLR (R103): `CRC <- CRC_INIT`. -/
def execCrcclr (s : State) : StepResult :=
  accept (fun s => report .complete { s with crc := s.params.crcInit }) s

/-- CRCBYTE (R104): `CRC <- crc8_step(CRC, d8)`. -/
def execCrcbyte (d8 : Byte) (s : State) : StepResult :=
  accept (fun s => report .complete { s with crc := crc8Step s.crc d8 }) s

end Sys2Proof.Machine
end

