-- ==== Sys2Proof/Machine/Dispatch.lean ====
section
/-! DEFINITION. The meaning of every command, one arm each. -/

namespace Sys2Proof.Machine

def exec (i : Instr) (s : State) : Host.Outcome State Fault Refusal :=
  match i with
  | .nop => Sys2Proof.Machine.execNop s
  | .setmode mode => Sys2Proof.Machine.execSetmode mode s
  | .crcclr => Sys2Proof.Machine.execCrcclr s
  | .crcbyte d8 => Sys2Proof.Machine.execCrcbyte d8 s
  | .rdw a7 cmd => Sys2Proof.Machine.execRdw a7 cmd s
  | .wrw a7 cmd d16 => Sys2Proof.Machine.execWrw a7 cmd d16 s
  | .rdb a7 cmd => Sys2Proof.Machine.execRdb a7 cmd s
  | .wrb a7 cmd d8 => Sys2Proof.Machine.execWrb a7 cmd d8 s
  | .rcv a7 => Sys2Proof.Machine.execRcv a7 s
  | .snd a7 d8 => Sys2Proof.Machine.execSnd a7 d8 s
  | .ara => Sys2Proof.Machine.execAra s

end Sys2Proof.Machine
end

