-- ==== Sys2Proof/Machine/Agents.lean ====
section
/-! DEFINITION. The moves of the three agents (00_scope.md R5), and which of them moves next (log 7). -/

namespace Sys2Proof.Machine

/-- The command port (R6 (a), R130, R203 (a)): a word that comes while BUSY = 1 is dropped, whatever it is; an
accepted word is decoded, and runs or ends as ILLEGAL. The test for BUSY stands in `accept`. -/
def commandPort (w : CmdWord) (s : State) : StepResult :=
  match decode w with
  | .command i => exec i s
  | .illegal _ => accept illegalWord s

/-- One act of the host at its interfaces (R6). -/
def hostAct (a : HostAct) (s : State) : StepResult :=
  match a with
  | .command w => commandPort w s
  | .readRegister index => .next (readRegister index s)
  | .reset => .next (assertReset s)

/-- The host's move: its next act, if it has one (R28). -/
def hostMove (s : State) : StepResult :=
  match s.hostActs with
  | [] => .next s
  | a :: rest => hostAct a { s with hostActs := rest }

/-- The bridge's move: in AWAITING_RESPONSE the channel delivers its next response, if it has one. In another phase
no step consumes one, and it stays in the channel (R170, R206, R230; log 9). -/
def bridgeMove (s : State) : State :=
  match s.phase, s.bridge with
  | .awaitingResponse _, resp :: rest => respond resp { s with bridge := rest }
  | .awaitingResponse _, [] => s
  | .idle, _ => s
  | .framed _, _ => s

/-- Who moves when no turn is named: the host while the block is IDLE, so that it waits for BUSY = 0 (R241); the
block in FRAMED (R135); the bridge in AWAITING_RESPONSE (R170). -/
def naturalTurn : Phase → Agent
  | .idle => .host
  | .framed _ => .block
  | .awaitingResponse _ => .bridge

/-- One move of one agent. -/
def move (a : Agent) (s : State) : StepResult :=
  match a with
  | .host => hostMove s
  | .block => .next (transmit s)
  | .bridge => .next (bridgeMove s)

/-- One step of the whole: the agent whose turn it is moves. -/
def agentStep (s : State) : StepResult :=
  match s.turns with
  | [] => move (naturalTurn s.phase) s
  | a :: rest => move a { s with turns := rest }

/-- The host's very next act is to write `w`, and the very next turn is the host's (log 8). -/
def offerCommand (w : CmdWord) (s : State) : State :=
  { s with hostActs := .command w :: s.hostActs, turns := .host :: s.turns }

/-- `offerCommand` for a word given as a number of `nbits` bits; one that is no command word changes nothing (log 15). -/
def offerTableWord (nbits w : Nat) (s : State) : State :=
  match wordOfBits nbits w with
  | some v => offerCommand v s
  | none => s

end Sys2Proof.Machine
end

