-- ==== Sys2Proof/WellFormed.lean ====
section
/-! DEFINITION. What must be checked before a command exists. An `Instr` carries its operands at the exact widths of
30_encoding.md R72, so every term of it is well-formed. What can be ill-formed is the assembler's line, whose
operands are numbers that may be out of range (R77), and a command word (checked by decoding, R75). -/

namespace Sys2Proof

/-- One line of assembler: a command of R77 or a pseudo-instruction of R78, its operands as the numbers written. -/
inductive AsmLine where
  | nop
  | setmode (mode : Nat)
  | crcclr
  | crcbyte (b8 : Nat)
  | rdw (a7 cmd : Nat)
  | wrw (a7 cmd d16 : Nat)
  | rdb (a7 cmd : Nat)
  | wrb (a7 cmd d8 : Nat)
  | rcv (a7 : Nat)
  | snd (a7 d8 : Nat)
  | ara
  | pecon
  | pecoff
  | crc (b0 : Nat) (bs : List Nat)
deriving DecidableEq, Repr

/-- `a7 ∈ 0..0x7F` (R77). -/
def inA7 (n : Nat) : Bool := decide (n ≤ 0x7F)

/-- `cmd ∈ 0..0xFF`, and the same range for `b8` and `d8` (R77). -/
def inByte (n : Nat) : Bool := decide (n ≤ 0xFF)

/-- `d16 ∈ 0..0xFFFF` (R77). -/
def inHalf (n : Nat) : Bool := decide (n ≤ 0xFFFF)

/-- Every operand in its range (R77): a line outside it is an assembly error, never truncated. -/
def AsmLine.wf : AsmLine → Bool
  | .nop => true
  | .setmode mode => decide (mode ≤ 1)
  | .crcclr => true
  | .crcbyte b8 => inByte b8
  | .rdw a7 cmd => inA7 a7 && inByte cmd
  | .wrw a7 cmd d16 => inA7 a7 && inByte cmd && inHalf d16
  | .rdb a7 cmd => inA7 a7 && inByte cmd
  | .wrb a7 cmd d8 => inA7 a7 && inByte cmd && inByte d8
  | .rcv a7 => inA7 a7
  | .snd a7 d8 => inA7 a7 && inByte d8
  | .ara => true
  | .pecon => true
  | .pecoff => true
  | .crc b0 bs => inByte b0 && bs.all inByte

end Sys2Proof
end

