-- ==== Sys2Proof/Machine/Assembler.lean ====
section
/-! DEFINITION. The assembler of 30_encoding.md R77 and R78: one line of text to the command words it stands for. -/

namespace Sys2Proof.Machine

/-- Why a line does not assemble (R77). -/
inductive AsmError where
  | unknownMnemonic
  | operandCount
  | badLiteral
  | outOfRange
deriving DecidableEq, Repr

/-- The commands of a line, its pseudo-instructions expanded (R78). Asked only of lines whose operands are in range. -/
def expandLine : AsmLine → List Instr
  | .nop => [.nop]
  | .setmode mode => [.setmode (mode == 1)]
  | .crcclr => [.crcclr]
  | .crcbyte b8 => [.crcbyte (BitVec.ofNat 8 b8)]
  | .rdw a7 cmd => [.rdw (BitVec.ofNat 7 a7) (BitVec.ofNat 8 cmd)]
  | .wrw a7 cmd d16 => [.wrw (BitVec.ofNat 7 a7) (BitVec.ofNat 8 cmd) (BitVec.ofNat 16 d16)]
  | .rdb a7 cmd => [.rdb (BitVec.ofNat 7 a7) (BitVec.ofNat 8 cmd)]
  | .wrb a7 cmd d8 => [.wrb (BitVec.ofNat 7 a7) (BitVec.ofNat 8 cmd) (BitVec.ofNat 8 d8)]
  | .rcv a7 => [.rcv (BitVec.ofNat 7 a7)]
  | .snd a7 d8 => [.snd (BitVec.ofNat 7 a7) (BitVec.ofNat 8 d8)]
  | .ara => [.ara]
  | .pecon => [.setmode true]
  | .pecoff => [.setmode false]
  | .crc b0 bs => .crcclr :: (b0 :: bs).map fun b => .crcbyte (BitVec.ofNat 8 b)

/-- A line's command words; an operand out of its range is an error, never truncated (R77). -/
def assembleLine (l : AsmLine) : Except AsmError (List CmdWord) :=
  if l.wf then .ok ((expandLine l).map encode) else .error .outOfRange

/-! ### Text (the details R77 leaves open: log 13) -/

def isBlank (c : Char) : Bool := c == ' ' || c == '\t'

def trim (t : Text) : Text := ((t.dropWhile isBlank).reverse.dropWhile isBlank).reverse

/-- A mnemonic is case-insensitive (R77). -/
def upper (c : Char) : Char := if 'a' ≤ c && c ≤ 'z' then Char.ofNat (c.toNat - 32) else c

/-- `;` starts a comment (R77). -/
def stripComment (t : Text) : Text := t.takeWhile (· != ';')

/-- Operands are separated by commas (R77). -/
def splitCommas : Text → List Text
  | [] => [[]]
  | c :: rest =>
    if c == ',' then [] :: splitCommas rest
    else
      match splitCommas rest with
      | [] => [[c]]
      | first :: others => (c :: first) :: others

/-- A decimal literal (R77). -/
def decimal (t : Text) : Option Nat :=
  if !t.isEmpty && t.all (fun c => '0' ≤ c && c ≤ '9') then
    some (t.foldl (fun n c => 10 * n + (hexVal c).toNat) 0)
  else none

/-- A numeric operand: a `0x` hex literal or a decimal literal (R77). -/
def literal (t : Text) : Option Nat :=
  match t with
  | '0' :: 'x' :: digits =>
    if !digits.isEmpty && digits.all isHexDigit then
      some (digits.foldl (fun n c => 16 * n + (hexVal c).toNat) 0)
    else none
  | _ => decimal t

/-- The literals of a list of operands. -/
def literals : List Text → Option (List Nat)
  | [] => some []
  | t :: ts =>
    match literal (trim t), literals ts with
    | some n, some ns => some (n :: ns)
    | _, _ => none

/-- The line of a mnemonic in upper case and its operands (R77, R78). -/
def lineOf (mnemonic : Text) (ops : List Nat) : Except AsmError AsmLine :=
  match mnemonic with
  | ['N', 'O', 'P'] =>
    match ops with | [] => .ok .nop | _ => .error .operandCount
  | ['S', 'E', 'T', 'M', 'O', 'D', 'E'] =>
    match ops with | [mode] => .ok (.setmode mode) | _ => .error .operandCount
  | ['C', 'R', 'C', 'C', 'L', 'R'] =>
    match ops with | [] => .ok .crcclr | _ => .error .operandCount
  | ['C', 'R', 'C', 'B', 'Y', 'T', 'E'] =>
    match ops with | [b8] => .ok (.crcbyte b8) | _ => .error .operandCount
  | ['R', 'D', 'W'] =>
    match ops with | [a7, cmd] => .ok (.rdw a7 cmd) | _ => .error .operandCount
  | ['W', 'R', 'W'] =>
    match ops with | [a7, cmd, d16] => .ok (.wrw a7 cmd d16) | _ => .error .operandCount
  | ['R', 'D', 'B'] =>
    match ops with | [a7, cmd] => .ok (.rdb a7 cmd) | _ => .error .operandCount
  | ['W', 'R', 'B'] =>
    match ops with | [a7, cmd, d8] => .ok (.wrb a7 cmd d8) | _ => .error .operandCount
  | ['R', 'C', 'V'] =>
    match ops with | [a7] => .ok (.rcv a7) | _ => .error .operandCount
  | ['S', 'N', 'D'] =>
    match ops with | [a7, d8] => .ok (.snd a7 d8) | _ => .error .operandCount
  | ['A', 'R', 'A'] =>
    match ops with | [] => .ok .ara | _ => .error .operandCount
  | ['P', 'E', 'C', 'O', 'N'] =>
    match ops with | [] => .ok .pecon | _ => .error .operandCount
  | ['P', 'E', 'C', 'O', 'F', 'F'] =>
    match ops with | [] => .ok .pecoff | _ => .error .operandCount
  | ['C', 'R', 'C'] =>
    match ops with | b0 :: bs => .ok (.crc b0 bs) | [] => .error .operandCount
  | _ => .error .unknownMnemonic

/-- One line of source text to its command words; a line without a command gives none (R77). -/
def assemble (t : Text) : Except AsmError (List CmdWord) :=
  let body := trim (stripComment t)
  let rest := trim (body.dropWhile (fun c => !isBlank c))
  if body.isEmpty then .ok []
  else
    match literals (if rest.isEmpty then [] else splitCommas rest) with
    | none => .error .badLiteral
    | some ops =>
      match lineOf ((body.takeWhile (fun c => !isBlank c)).map upper) ops with
      | .error e => .error e
      | .ok l => assembleLine l

end Sys2Proof.Machine
end

