-- ==== Sys2Proof/Safety.lean ====
section
/-! DEFINITION. What claims are stated in: who moves, the invariant of the machine, the states a run reaches, a safe run,
and an independent reading of the CRC as a polynomial remainder. -/

namespace Sys2Proof

/-- What a bus command captures in TXN: operation, `a7`, `cmd` and `d16`, a field the command does not have being zero
(30_encoding.md R72 to R74); none for a local command. -/
def Instr.busParts : Instr → Option (Machine.BusOp × Addr7 × Byte × Half)
  | .nop => none
  | .setmode _ => none
  | .crcclr => none
  | .crcbyte _ => none
  | .rdw a7 cmd => some (.rdw, a7, cmd, 0)
  | .wrw a7 cmd d16 => some (.wrw, a7, cmd, d16)
  | .rdb a7 cmd => some (.rdb, a7, cmd, 0)
  | .wrb a7 cmd d8 => some (.wrb, a7, cmd, d8.setWidth 16)
  | .rcv a7 => some (.rcv, a7, 0, 0)
  | .snd a7 d8 => some (.snd, a7, 0, d8.setWidth 16)
  | .ara => some (.ara, 0, 0, 0)

/-- Opcodes 0x10 to 0x16 are the bus commands, 0x00 to 0x03 the local commands (30_encoding.md R73). -/
def Instr.isBus (i : Instr) : Bool := i.busParts.isSome

end Sys2Proof

namespace Sys2Proof.Machine

/-! ### Who moves -/

/-- The agent that the next step moves. -/
def State.mover (s : State) : Agent :=
  match s.turns with
  | [] => naturalTurn s.phase
  | a :: _ => a

/-- The host's act that the next step does, if the host moves and has one. -/
def State.actNow (s : State) : Option HostAct :=
  if s.mover = .host then s.hostActs.head? else none

/-- The next step asserts reset. -/
def State.resetsNow (s : State) : Prop := s.actNow = some .reset

/-- The turn taken from the list, as every step takes it. -/
def State.popTurn (s : State) : State := { s with turns := s.turns.tail }

/-- The turn and the host's act taken, as every act of the host takes them. -/
def State.popAct (s : State) : State := { s with turns := s.turns.tail, hostActs := s.hostActs.tail }

/-- The turn and the channel's response taken, as every response step takes them. -/
def State.popResponse (s : State) : State := { s with turns := s.turns.tail, bridge := s.bridge.tail }

/-! ### Kinds of operation -/

/-- The operations that send data and request none (42_error_flag_decoder.md R177). -/
def BusOp.isWrite : BusOp → Bool
  | .rdw => false
  | .wrw => true
  | .rdb => false
  | .wrb => true
  | .rcv => false
  | .snd => true
  | .ara => false

/-- The bytes a list of symbols puts on the wire, in order. -/
def sentBytes (ss : List Symbol) : List Byte :=
  ss.filterMap fun
    | .send b => some b
    | .start => none
    | .rstart => none
    | .recv => none
    | .recvLast => none
    | .stop => none

/-- How many response bytes a list of symbols requests. -/
def requestCount (ss : List Symbol) : Nat := ss.count .recv + ss.count .recvLast

/-! ### The invariant -/

/-- What holds between any two steps of a run. -/
structure State.Inv (s : State) : Prop where
  /-- The sentinels and tokens meet the side conditions of 00_scope.md R8. -/
  tokensWf      : s.params.tokens.wf = true
  /-- ERR is the one-hot flag of OUTCOME (10_state.md R25). -/
  errMatches    : s.err = errFlag s.outcome
  /-- TXN is what its own operands and its captured mode make of it (41_frame_enumerator.md R131). -/
  txnCaptured   : ∀ t, s.txn = some t → capture s.params t.op t.a7 t.cmd t.d16 t.pec = t
  /-- A transaction's mode never changes under it (10_state.md R22). -/
  modeHeld      : ∀ t, s.txn = some t → t.pec = s.pecEn
  /-- While BUSY = 1 nothing is a result yet, and CRC covers the TX bytes (70_reset_and_hazards.md R246). -/
  busyQuiet     : ∀ t, s.txn = some t →
    s.outcome = .none ∧ s.rvalid = false ∧ s.araNone = false ∧ s.crc = crc8 s.params.crcInit t.cb
  /-- No transaction is outstanding while the bridge is offline (41_frame_enumerator.md R132). -/
  busyOnline    : s.busy = true → s.offline = false
  /-- RVALID and ARA_NONE are never both set (42_error_flag_decoder.md R180). -/
  oneResult     : ¬(s.rvalid = true ∧ s.araNone = true)
  /-- OVR never stands without the record of the broken duty (70_reset_and_hazards.md R241). -/
  ovrRecorded   : s.ovr = true → s.hostFault = true
  /-- One response at most for each line transmitted (10_state.md R32). -/
  logsAgree     : s.rxlog.length + (match s.phase with
    | .idle => 0
    | .framed _ => 0
    | .awaitingResponse _ => 1) ≤ s.txlog.length

/-! ### Runs -/

/-- The state a run starts from (10_state.md R34, 70_reset_and_hazards.md R233): the block after reset, under any
parameters, with what host and bridge will do and in which turns. -/
def startState (p : Params) (acts : List HostAct) (bridge : List Response) (turns : List Agent) : State :=
  assertReset { State.reset with params := p, hostActs := acts, bridge := bridge, turns := turns }

/-- The states that runs reach, under all parameters that meet R8 and all behaviours of host and bridge. -/
inductive Reachable : State → Prop where
  | start (p : Params) (acts : List HostAct) (bridge : List Response) (turns : List Agent)
      (h : p.tokens.wf = true) : Reachable (startState p acts bridge turns)
  | next {s s' : State} (r : Reachable s) (h : step s = .next s') : Reachable s'

/-- A safe run is one in which the host has kept its duty to wait for BUSY = 0 (70_reset_and_hazards.md R241). -/
def State.dutiesKept (s : State) : Prop := s.hostFault = false

/-- Two states that differ at most in RDATA while it holds no value (10_state.md R26). -/
def SameButDeadRdata (s t : State) : Prop :=
  s.rvalid = false ∧ t = { s with rdata := t.rdata }

/-! ### The CRC as a remainder (40_control_and_crc.md R100, R101 (f)) -/

/-- Subtract the polynomial x^8+x^2+x+1 (0x107), shifted by `k`, if the coefficient of x^(8+k) is set. -/
def reduceAt (k : Nat) (v : BitVec 16) : BitVec 16 :=
  if v.getLsbD (8 + k) then v ^^^ (0x0107#16 <<< k) else v

/-- `b · x^8 mod 0x107`, by long division. -/
def timesX8Mod (b : Byte) : Byte :=
  ([7, 6, 5, 4, 3, 2, 1, 0].foldl (fun v k => reduceAt k v) (b.setWidth 16 <<< 8)).setWidth 8

end Sys2Proof.Machine
end

