-- ==== Sys2Proof/Certificates/Slice0/Obligations.lean ====
section
/-! DEFINITION. The statements for the provers, from the numbered rules of spec/. A docstring that says "derived" names
an inference the spec itself marks as derived, or a choice of the model's log. The block has no memory (20_memory.md R50),
so a frame speaks of the registers, PHASE, the logs and the queues of host and bridge. -/

open Sys2Proof Sys2Proof.Machine

/-! ## Command words -/

/-- Words written out in 30_encoding.md to 42_error_flag_decoder.md and 95_test_vectors.md decode to what those files
say they stand for. -/
def Obligations.SpecExampleWordsDecode : Prop :=
  decode 0x0000000000 = .command .nop ∧
  decode 0x0100000001 = .command (.setmode true) ∧
  decode 0x0200000000 = .command .crcclr ∧
  decode 0x0300000012 = .command (.crcbyte 0x12) ∧
  decode 0x1009020000 = .command (.rdw 0x09 0x02) ∧
  decode 0x1109011234 = .command (.wrw 0x09 0x01 0x1234) ∧
  decode 0x117FFFFFFF = .command (.wrw 0x7F 0xFF 0xFFFF) ∧
  decode 0x1209030000 = .command (.rdb 0x09 0x03) ∧
  decode 0x13092000A5 = .command (.wrb 0x09 0x20 0xA5) ∧
  decode 0x1409000000 = .command (.rcv 0x09) ∧
  decode 0x150900005A = .command (.snd 0x09 0x5A) ∧
  decode 0x1600000000 = .command .ara ∧
  decode 0x0400000000 = .illegal .reservedOpcode ∧
  decode 0xFFFFFFFFFF = .illegal .reservedOpcode ∧
  decode 0x1609000000 = .illegal .mustBeZero ∧
  decode 0x1089020000 = .illegal .mustBeZero ∧
  decode 0x1309200100 = .illegal .mustBeZero

/-- The word of every command decodes to that command, whatever its operands. -/
def Obligations.EncodedCommandDecodesToItself : Prop :=
  ∀ i : Instr, decode (encode i) = .command i

/-- A word that decodes to a command is that command's only word: no bit of a legal word is without meaning. -/
def Obligations.LegalWordIsTheEncodingOfItsCommand : Prop :=
  ∀ (w : CmdWord) (i : Instr), decode w = .command i → encode i = w

/-- R72, R74, R75: a word selects a mnemonic exactly when `(w & mask) == match`, with the operands at their bit
positions, and is Illegal when no row selects it. -/
def Obligations.DecodeIsTheMaskTable : Prop :=
  ∀ w : CmdWord,
    (∀ i : Instr, decode w = .command i ↔
      (w &&& 0xFFFFFFFFFF = 0x0000000000 ∧ i = .nop) ∨
      (w &&& 0xFFFFFFFFFE = 0x0100000000 ∧ i = .setmode (w.getLsbD 0)) ∨
      (w &&& 0xFFFFFFFFFF = 0x0200000000 ∧ i = .crcclr) ∨
      (w &&& 0xFFFFFFFF00 = 0x0300000000 ∧ i = .crcbyte (w.extractLsb' 0 8)) ∨
      (w &&& 0xFF8000FFFF = 0x1000000000 ∧ i = .rdw (w.extractLsb' 24 7) (w.extractLsb' 16 8)) ∨
      (w &&& 0xFF80000000 = 0x1100000000 ∧
        i = .wrw (w.extractLsb' 24 7) (w.extractLsb' 16 8) (w.extractLsb' 0 16)) ∨
      (w &&& 0xFF8000FFFF = 0x1200000000 ∧ i = .rdb (w.extractLsb' 24 7) (w.extractLsb' 16 8)) ∨
      (w &&& 0xFF8000FF00 = 0x1300000000 ∧
        i = .wrb (w.extractLsb' 24 7) (w.extractLsb' 16 8) (w.extractLsb' 0 8)) ∨
      (w &&& 0xFF80FFFFFF = 0x1400000000 ∧ i = .rcv (w.extractLsb' 24 7)) ∨
      (w &&& 0xFF80FFFF00 = 0x1500000000 ∧ i = .snd (w.extractLsb' 24 7) (w.extractLsb' 0 8)) ∨
      (w &&& 0xFFFFFFFFFF = 0x1600000000 ∧ i = .ara)) ∧
    ((∃ why, decode w = .illegal why) ↔
      w &&& 0xFFFFFFFFFF ≠ 0x0000000000 ∧ w &&& 0xFFFFFFFFFE ≠ 0x0100000000 ∧
      w &&& 0xFFFFFFFFFF ≠ 0x0200000000 ∧ w &&& 0xFFFFFFFF00 ≠ 0x0300000000 ∧
      w &&& 0xFF8000FFFF ≠ 0x1000000000 ∧ w &&& 0xFF80000000 ≠ 0x1100000000 ∧
      w &&& 0xFF8000FFFF ≠ 0x1200000000 ∧ w &&& 0xFF8000FF00 ≠ 0x1300000000 ∧
      w &&& 0xFF80FFFFFF ≠ 0x1400000000 ∧ w &&& 0xFF80FFFF00 ≠ 0x1500000000 ∧
      w &&& 0xFFFFFFFFFF ≠ 0x1600000000)

/-- R76: a word is illegal exactly when (a) OPC is 0x04 to 0x0F or 0x17 to 0xFF, or (b) OPC is listed and a
must-be-zero field is not zero; accepted, it ends with ILLEGAL and changes nothing else. -/
def Obligations.IllegalIsReservedOpcodeOrMustBeZero : Prop :=
  ∀ w : CmdWord,
    (decode w = .illegal .reservedOpcode ↔
      (0x04 ≤ (w.extractLsb' 32 8).toNat ∧ (w.extractLsb' 32 8).toNat ≤ 0x0F) ∨
      0x17 ≤ (w.extractLsb' 32 8).toNat) ∧
    (decode w = .illegal .mustBeZero ↔
      (w.extractLsb' 32 8 = 0x00 ∧ w.extractLsb' 0 32 ≠ 0) ∨
      (w.extractLsb' 32 8 = 0x01 ∧ w.extractLsb' 1 31 ≠ 0) ∨
      (w.extractLsb' 32 8 = 0x02 ∧ w.extractLsb' 0 32 ≠ 0) ∨
      (w.extractLsb' 32 8 = 0x03 ∧ w.extractLsb' 8 24 ≠ 0) ∨
      (w.extractLsb' 32 8 = 0x10 ∧ (w.getLsbD 31 = true ∨ w.extractLsb' 0 16 ≠ 0)) ∨
      (w.extractLsb' 32 8 = 0x11 ∧ w.getLsbD 31 = true) ∨
      (w.extractLsb' 32 8 = 0x12 ∧ (w.getLsbD 31 = true ∨ w.extractLsb' 0 16 ≠ 0)) ∨
      (w.extractLsb' 32 8 = 0x13 ∧ (w.getLsbD 31 = true ∨ w.extractLsb' 8 8 ≠ 0)) ∨
      (w.extractLsb' 32 8 = 0x14 ∧ (w.getLsbD 31 = true ∨ w.extractLsb' 0 24 ≠ 0)) ∨
      (w.extractLsb' 32 8 = 0x15 ∧ (w.getLsbD 31 = true ∨ w.extractLsb' 8 16 ≠ 0)) ∨
      (w.extractLsb' 32 8 = 0x16 ∧ w.extractLsb' 0 32 ≠ 0)) ∧
    (∀ (why : IllegalWord) (s : State), decode w = .illegal why → s.phase = .idle →
      commandPort w s = .next { s with outcome := .illegal, err := 0x20 })

/-- R78: the expansions of PECON, PECOFF and CRC, as words. -/
def Obligations.PseudoInstructionsExpand : Prop :=
  assembleLine .pecon = .ok [0x0100000001] ∧
  assembleLine .pecoff = .ok [0x0100000000] ∧
  ∀ (b0 : Nat) (bs : List Nat), b0 ≤ 0xFF → (∀ b ∈ bs, b ≤ 0xFF) →
    assembleLine (.crc b0 bs) =
      .ok (0x0200000000 :: (b0 :: bs).map (fun b => BitVec.ofNat 40 (0x0300000000 + b)))

/-- R77: a line assembles to `(OPC << 32) | (a7 << 24) | (cmd << 16) | d`, and only if every operand is in its range;
otherwise it is an assembly error. -/
def Obligations.AssemblerEncodesOrRefuses : Prop :=
  (∀ l : AsmLine, l.wf = false → assembleLine l = .error .outOfRange) ∧
  assembleLine .nop = .ok [0x0000000000] ∧
  assembleLine .crcclr = .ok [0x0200000000] ∧
  assembleLine .ara = .ok [0x1600000000] ∧
  (∀ m, assembleLine (.setmode m) =
    if m ≤ 1 then .ok [BitVec.ofNat 40 (0x01 * 2 ^ 32 + m)] else .error .outOfRange) ∧
  (∀ d, assembleLine (.crcbyte d) =
    if d ≤ 0xFF then .ok [BitVec.ofNat 40 (0x03 * 2 ^ 32 + d)] else .error .outOfRange) ∧
  (∀ a c, assembleLine (.rdw a c) =
    if a ≤ 0x7F ∧ c ≤ 0xFF then .ok [BitVec.ofNat 40 (0x10 * 2 ^ 32 + a * 2 ^ 24 + c * 2 ^ 16)]
    else .error .outOfRange) ∧
  (∀ a c d, assembleLine (.wrw a c d) =
    if a ≤ 0x7F ∧ c ≤ 0xFF ∧ d ≤ 0xFFFF then
      .ok [BitVec.ofNat 40 (0x11 * 2 ^ 32 + a * 2 ^ 24 + c * 2 ^ 16 + d)]
    else .error .outOfRange) ∧
  (∀ a c, assembleLine (.rdb a c) =
    if a ≤ 0x7F ∧ c ≤ 0xFF then .ok [BitVec.ofNat 40 (0x12 * 2 ^ 32 + a * 2 ^ 24 + c * 2 ^ 16)]
    else .error .outOfRange) ∧
  (∀ a c d, assembleLine (.wrb a c d) =
    if a ≤ 0x7F ∧ c ≤ 0xFF ∧ d ≤ 0xFF then
      .ok [BitVec.ofNat 40 (0x13 * 2 ^ 32 + a * 2 ^ 24 + c * 2 ^ 16 + d)]
    else .error .outOfRange) ∧
  (∀ a, assembleLine (.rcv a) =
    if a ≤ 0x7F then .ok [BitVec.ofNat 40 (0x14 * 2 ^ 32 + a * 2 ^ 24)] else .error .outOfRange) ∧
  (∀ a d, assembleLine (.snd a d) =
    if a ≤ 0x7F ∧ d ≤ 0xFF then .ok [BitVec.ofNat 40 (0x15 * 2 ^ 32 + a * 2 ^ 24 + d)]
    else .error .outOfRange)

/-! ## Steps and acceptance -/

/-- A step runs the decoded command: the word offered to the next step, or the host's next act when it is the host's
turn, named or natural. The turns and the queue are the model's (logs 7, 8). -/
def Obligations.StepRunsTheDecodedCommand : Prop :=
  (∀ (nbits w : Nat) (s : State) (i : Instr), decodeTableWord nbits w = some i →
    step (s.withFetchWord nbits w) = exec i s) ∧
  (∀ (w : CmdWord) (s : State) (i : Instr) (acts : List HostAct) (ts : List Agent),
    decode w = .command i → s.hostActs = .command w :: acts → s.turns = .host :: ts →
    step s = exec i { s with hostActs := acts, turns := ts }) ∧
  (∀ (w : CmdWord) (s : State) (i : Instr) (acts : List HostAct),
    decode w = .command i → s.hostActs = .command w :: acts → s.turns = [] → s.phase = .idle →
    step s = exec i { s with hostActs := acts })

/-- R202 (no trap mechanism): every step answers a next state; nothing stops the machine (log 17). -/
def Obligations.EveryStepAnswersNext : Prop :=
  ∀ s : State, ∃ s', step s = .next s'

/-- R203 (a), the order of conditions at acceptance: BUSY, then ILLEGAL, then OFFLINE for a bus command, then the
command itself, which leaves OVR alone and ends COMPLETE or, for a bus command just issued, NONE. The record `hostFault`
is the model's (log 10). -/
def Obligations.AcceptancePriority : Prop :=
  ∀ (w : CmdWord) (s : State),
    (s.busy = true → commandPort w s = .next { s with ovr := true, hostFault := true }) ∧
    (s.busy = false → (∀ i, decode w ≠ .command i) →
      commandPort w s = .next { s with outcome := .illegal, err := 0x20 }) ∧
    (s.busy = false → s.offline = true → ∀ i, decode w = .command i → i.isBus = true →
      commandPort w s =
        .next { s with outcome := .bridgeOffline, err := 0x02, rvalid := false, araNone := false }) ∧
    (s.busy = false → ∀ i, decode w = .command i → (s.offline = false ∨ i.isBus = false) →
      commandPort w s = exec i s ∧ ∃ s', exec i s = .next s' ∧ s'.ovr = s.ovr ∧
        (s'.outcome = .none ∨ s'.outcome = .complete))

/-- Derived. A word written while BUSY = 1 changes OVR alone of the block's state; OVR is sticky until reset; the broken
duty is recorded as a fault that no step clears (R241). The record `hostFault`, and that reset leaves it, are the
model's choice (log 10). -/
def Obligations.BusyWordIsDroppedAndRecorded : Prop :=
  (∀ (w : CmdWord) (s : State), s.phase ≠ .idle →
    commandPort w s = .next { s with ovr := true, hostFault := true }) ∧
  (∀ (s s' : State), step s = .next s' → s.ovr = true → s'.ovr = true ∨ s.resetsNow) ∧
  (∀ (s s' : State), step s = .next s' → s.hostFault = true → s'.hostFault = true)

/-! ## Local commands -/

/-- R102: NOP writes OUTCOME and ERR only; OPC 0x00 with any other bit set is ILLEGAL. -/
def Obligations.NopOnlyReportsComplete : Prop :=
  ∀ s : State, s.phase = .idle →
    exec .nop s = .next { s with outcome := .complete, err := 0x00 } ∧
    commandPort 0x0000000000 s = .next { s with outcome := .complete, err := 0x00 } ∧
    ∀ w : CmdWord, w.extractLsb' 32 8 = 0x00 → w ≠ 0 →
      commandPort w s = .next { s with outcome := .illegal, err := 0x20 }

/-- R103: CRCCLR sets CRC to CRC_INIT and reports COMPLETE; OPC 0x02 with any other bit set is ILLEGAL. -/
def Obligations.CrcclrLoadsCrcInit : Prop :=
  ∀ s : State, s.phase = .idle →
    exec .crcclr s = .next { s with crc := s.params.crcInit, outcome := .complete, err := 0x00 } ∧
    commandPort 0x0200000000 s =
      .next { s with crc := s.params.crcInit, outcome := .complete, err := 0x00 } ∧
    (∀ w : CmdWord, w.extractLsb' 32 8 = 0x02 → w.extractLsb' 0 32 ≠ 0 →
      commandPort w s = .next { s with outcome := .illegal, err := 0x20 }) ∧
    (s.crc = s.params.crcInit → exec .crcclr s = .next { s with outcome := .complete, err := 0x00 })

/-- R104: CRCBYTE folds `w[7:0]` into CRC; a word with A7, CMD, D16[15:8] or R not zero is ILLEGAL; folding CRC into
itself gives 0x00; a bus command between forgets CRC. -/
def Obligations.CrcbyteFoldsOneByte : Prop :=
  (∀ (d8 : Byte) (s : State), s.phase = .idle →
    exec (.crcbyte d8) s =
      .next { s with crc := crc8Step s.crc d8, outcome := .complete, err := 0x00 }) ∧
  (∀ (w : CmdWord) (s : State), s.phase = .idle → w.extractLsb' 32 8 = 0x03 →
    commandPort w s =
      if w.extractLsb' 8 24 = 0 then
        .next { s with crc := crc8Step s.crc (w.extractLsb' 0 8), outcome := .complete, err := 0x00 }
      else .next { s with outcome := .illegal, err := 0x20 }) ∧
  (∀ c : Byte, crc8Step c c = 0x00) ∧
  crc8Step 0x00 0x12 = 0x7E ∧
  (∀ (i : Instr) (s : State) (c : Byte), i.isBus = true → s.phase = .idle → s.offline = false →
    exec i { s with crc := c } = exec i s)

/-- Derived. SETMODE sets CONFIG.PEC_EN to `w[0]`, and STATUS.PEC_EN follows; a word with another operand bit set is
ILLEGAL; while BUSY it is dropped, PEC_EN and TXN stay (R105), and OVR is set (R241). The record `hostFault` of that
drop is the model's choice (log 10). -/
def Obligations.SetmodeBindsPecEn : Prop :=
  (∀ (mode : Bool) (s : State), s.phase = .idle →
    exec (.setmode mode) s = .next { s with pecEn := mode, outcome := .complete, err := 0x00 }) ∧
  (∀ (w : CmdWord) (s : State), s.phase = .idle → w.extractLsb' 32 8 = 0x01 →
    commandPort w s =
      if w.extractLsb' 1 31 = 0 then
        .next { s with pecEn := w.getLsbD 0, outcome := .complete, err := 0x00 }
      else .next { s with outcome := .illegal, err := 0x20 }) ∧
  (∀ s : State, configWord s = (if s.pecEn then 0x01 else 0x00) ∧ (statusWord s).getLsbD 3 = s.pecEn) ∧
  (∀ (mode : Bool) (s : State), s.phase ≠ .idle →
    exec (.setmode mode) s = .next { s with ovr := true, hostFault := true })

/-- 10_state.md R33 (marked derived there): what the four local commands leave unchanged, in every phase. The queues of
host and bridge, `reads`, `draws` and `hostFault` are the model's (logs 5, 7, 10, 11). -/
def Obligations.LocalCommandsFrame : Prop :=
  ∀ (i : Instr) (s s' : State), i.isBus = false → exec i s = .next s' →
    s'.phase = s.phase ∧ s'.offline = s.offline ∧ s'.rvalid = s.rvalid ∧ s'.araNone = s.araNone ∧
    s'.rdata = s.rdata ∧ s'.txlog = s.txlog ∧ s'.rxlog = s.rxlog ∧ s'.reads = s.reads ∧
    s'.draws = s.draws ∧ s'.hostActs = s.hostActs ∧ s'.bridge = s.bridge ∧ s'.turns = s.turns ∧
    s'.params = s.params ∧
    ((∀ mode, i ≠ .setmode mode) → s'.pecEn = s.pecEn) ∧
    (i ≠ .crcclr → (∀ d8, i ≠ .crcbyte d8) → s'.crc = s.crc) ∧
    (s.phase = .idle → s'.ovr = s.ovr ∧ s'.hostFault = s.hostFault) ∧
    (s.phase ≠ .idle → s'.outcome = s.outcome ∧ s'.err = s.err ∧ s'.pecEn = s.pecEn ∧ s'.crc = s.crc)

/-! ## The checksum -/

/-- The source's "8-bit CRC ... using polynomial 0x07 (x^8+x^2+x^1+1), MSB-first", read as arithmetic: one byte step is
multiplication by x^8 modulo 0x107 (R101 (f), which the spec marks derived). -/
def Obligations.CrcStepIsPolynomialRemainder : Prop :=
  ∀ c b : Byte, crc8Step c b = timesX8Mod (c ^^^ b)

/-- R101 (a) (marked derived): concatenation. -/
def Obligations.CrcOfConcatenation : Prop :=
  ∀ (init : Byte) (as bs : List Byte), crc8 init (as ++ bs) = crc8 (crc8 init as) bs

/-- R101 (c) (marked derived): flipping one bit of any one byte changes the checksum; so does any other change of one
byte. -/
def Obligations.CrcSeesEveryChangeOfOneByte : Prop :=
  (∀ (init b b' : Byte) (before after : List Byte), b ≠ b' →
    crc8 init (before ++ b :: after) ≠ crc8 init (before ++ b' :: after)) ∧
  (∀ (init b : Byte) (before after : List Byte) (k : Nat), k < 8 →
    crc8 init (before ++ b :: after) ≠ crc8 init (before ++ (b ^^^ (1#8 <<< k)) :: after))

/-- R101 (d) and (e) (marked derived): with initial value 0x00 a list followed by its own checksum, and any number of
zeros, have checksum 0x00. -/
def Obligations.CrcSelfCheckAndZeros : Prop :=
  (∀ bs : List Byte, crc8 0x00 (bs ++ [crc8 0x00 bs]) = 0x00) ∧
  (∀ n : Nat, crc8 0x00 (List.replicate n 0x00) = 0x00)

/-- Reference values of 95_test_vectors.md section 2. -/
def Obligations.CrcReferenceValues : Prop :=
  crc8 0x00 [0x12, 0x34] = 0xF1 ∧ crc8 0x00 [0x80] = 0x89 ∧ crc8 0x00 [0xFE, 0xFF] = 0x31 ∧
  crc8 0x00 [0x31, 0x32, 0x33, 0x34, 0x35, 0x36, 0x37, 0x38, 0x39] = 0xF4

/-! ## Characters, bytes and addresses -/

/-- R54: hex spelling on TX and on RX. -/
def Obligations.HexSpelling : Prop :=
  (∀ c : Char, isHexDigit c = true ↔ c ∈ ['0', '1', '2', '3', '4', '5', '6', '7', '8', '9',
    'A', 'B', 'C', 'D', 'E', 'F', 'a', 'b', 'c', 'd', 'e', 'f']) ∧
  (∀ v : BitVec 4,
    hexDigit v = ['0', '1', '2', '3', '4', '5', '6', '7', '8', '9', 'A', 'B', 'C', 'D', 'E', 'F'].getD v.toNat ' ' ∧
    hexVal (['0', '1', '2', '3', '4', '5', '6', '7', '8', '9', 'A', 'B', 'C', 'D', 'E', 'F'].getD v.toNat ' ') = v ∧
    hexVal (['0', '1', '2', '3', '4', '5', '6', '7', '8', '9', 'a', 'b', 'c', 'd', 'e', 'f'].getD v.toNat ' ') = v) ∧
  (∀ hi lo : BitVec 4, hex2 (hi ++ lo) = [hexDigit hi, hexDigit lo]) ∧
  (∀ c1 c2 : Char, byteOf c1 c2 = hexVal c1 ++ hexVal c2)

/-- R51: the address bytes of a device address. -/
def Obligations.AddressBytes : Prop :=
  ∀ a7 : Addr7, writeAddr a7 = a7 ++ 0#1 ∧ readAddr a7 = a7 ++ 1#1 ∧
    (writeAddr a7).toNat = 2 * a7.toNat ∧ (readAddr a7).toNat = 2 * a7.toNat + 1

/-- R55: 16-bit words are little-endian on the wire, in what WRW sends, in what RDW returns, and in what the PEC
covers. -/
def Obligations.WordsAreLittleEndianOnTheWire : Prop :=
  ∀ (p : Params) (a7 : Addr7) (cmd hi lo : Byte) (pec : Bool),
    (sentBytes (symbols p .wrw a7 cmd (hi ++ lo) pec)).take 4 = [a7 ++ 0#1, cmd, lo, hi] ∧
    covered p .wrw a7 cmd (hi ++ lo) = [a7 ++ 0#1, cmd, lo, hi] ∧
    readValue .rdw [lo, hi] = some (hi ++ lo)

/-! ## The frame enumerator -/

/-- R131 with R133, R136 and R138: the issue of RDW and RDB. -/
def Obligations.ReadCommandsAreIssued : Prop :=
  ∀ (a7 : Addr7) (cmd : Byte) (s : State) (cb : List Byte), s.phase = .idle → s.offline = false →
    cb = (if s.params.pecReadCoverage = .both then [a7 ++ 0#1, cmd, a7 ++ 1#1] else [a7 ++ 0#1, cmd]) →
    exec (.rdw a7 cmd) s = .next { s with
      rvalid := false, araNone := false, outcome := .none, err := 0x00,
      crc := crc8 s.params.crcInit cb,
      phase := .framed {
        op := .rdw, a7 := a7, cmd := cmd, d16 := 0, pec := s.pecEn, cb := cb,
        n := 2, m := if s.pecEn then 3 else 2,
        line := spell s.params.tokens
          ([.start, .send (a7 ++ 0#1), .send cmd, .rstart, .send (a7 ++ 1#1)] ++
           (if s.pecEn then [.recv, .recv, .recvLast] else [.recv, .recvLast]) ++ [.stop]) } } ∧
    exec (.rdb a7 cmd) s = .next { s with
      rvalid := false, araNone := false, outcome := .none, err := 0x00,
      crc := crc8 s.params.crcInit cb,
      phase := .framed {
        op := .rdb, a7 := a7, cmd := cmd, d16 := 0, pec := s.pecEn, cb := cb,
        n := 1, m := if s.pecEn then 2 else 1,
        line := spell s.params.tokens
          ([.start, .send (a7 ++ 0#1), .send cmd, .rstart, .send (a7 ++ 1#1)] ++
           (if s.pecEn then [.recv, .recvLast] else [.recvLast]) ++ [.stop]) } }

/-- R131 with R133, R140 and R142: the issue of RCV and ARA, which have no command code and no repeated start. -/
def Obligations.ReceiveCommandsAreIssued : Prop :=
  ∀ (a7 : Addr7) (s : State), s.phase = .idle → s.offline = false →
    exec (.rcv a7) s = .next { s with
      rvalid := false, araNone := false, outcome := .none, err := 0x00,
      crc := crc8 s.params.crcInit [a7 ++ 1#1],
      phase := .framed {
        op := .rcv, a7 := a7, cmd := 0, d16 := 0, pec := s.pecEn, cb := [a7 ++ 1#1],
        n := 1, m := if s.pecEn then 2 else 1,
        line := spell s.params.tokens
          ([.start, .send (a7 ++ 1#1)] ++
           (if s.pecEn then [.recv, .recvLast] else [.recvLast]) ++ [.stop]) } } ∧
    exec .ara s = .next { s with
      rvalid := false, araNone := false, outcome := .none, err := 0x00,
      crc := crc8 s.params.crcInit [s.params.araAddr7 ++ 1#1],
      phase := .framed {
        op := .ara, a7 := 0, cmd := 0, d16 := 0, pec := s.pecEn, cb := [s.params.araAddr7 ++ 1#1],
        n := 1, m := if s.pecEn then 2 else 1,
        line := spell s.params.tokens
          ([.start, .send (s.params.araAddr7 ++ 1#1)] ++
           (if s.pecEn then [.recv, .recvLast] else [.recvLast]) ++ [.stop]) } }

/-- R131 with R133, R137, R139 and R141: the issue of WRW, WRB and SND; a checked write ends in the PEC of all its
covered bytes. -/
def Obligations.WriteCommandsAreIssued : Prop :=
  ∀ (a7 : Addr7) (cmd hi lo : Byte) (s : State), s.phase = .idle → s.offline = false →
    exec (.wrw a7 cmd (hi ++ lo)) s = .next { s with
      rvalid := false, araNone := false, outcome := .none, err := 0x00,
      crc := crc8 s.params.crcInit [a7 ++ 0#1, cmd, lo, hi],
      phase := .framed {
        op := .wrw, a7 := a7, cmd := cmd, d16 := hi ++ lo, pec := s.pecEn,
        cb := [a7 ++ 0#1, cmd, lo, hi], n := 0, m := 0,
        line := spell s.params.tokens
          ([.start, .send (a7 ++ 0#1), .send cmd, .send lo, .send hi] ++
           (if s.pecEn then [.send (crc8 s.params.crcInit [a7 ++ 0#1, cmd, lo, hi])] else []) ++
           [.stop]) } } ∧
    exec (.wrb a7 cmd lo) s = .next { s with
      rvalid := false, araNone := false, outcome := .none, err := 0x00,
      crc := crc8 s.params.crcInit [a7 ++ 0#1, cmd, lo],
      phase := .framed {
        op := .wrb, a7 := a7, cmd := cmd, d16 := 0#8 ++ lo, pec := s.pecEn,
        cb := [a7 ++ 0#1, cmd, lo], n := 0, m := 0,
        line := spell s.params.tokens
          ([.start, .send (a7 ++ 0#1), .send cmd, .send lo] ++
           (if s.pecEn then [.send (crc8 s.params.crcInit [a7 ++ 0#1, cmd, lo])] else []) ++
           [.stop]) } } ∧
    exec (.snd a7 lo) s = .next { s with
      rvalid := false, araNone := false, outcome := .none, err := 0x00,
      crc := crc8 s.params.crcInit [a7 ++ 0#1, lo],
      phase := .framed {
        op := .snd, a7 := a7, cmd := 0, d16 := 0#8 ++ lo, pec := s.pecEn,
        cb := [a7 ++ 0#1, lo], n := 0, m := 0,
        line := spell s.params.tokens
          ([.start, .send (a7 ++ 0#1), .send lo] ++
           (if s.pecEn then [.send (crc8 s.params.crcInit [a7 ++ 0#1, lo])] else []) ++
           [.stop]) } }

/-- R132: a bus command accepted while OFFLINE = 1 emits nothing, leaves PHASE in IDLE and reports BRIDGE_OFFLINE. -/
def Obligations.OfflineRefusesBusCommands : Prop :=
  ∀ (i : Instr) (s : State), i.isBus = true → s.phase = .idle → s.offline = true →
    exec i s = .next
      { s with rvalid := false, araNone := false, outcome := .bridgeOffline, err := 0x02 }

/-- 10_state.md R33 (marked derived there): what a bus command leaves unchanged at its acceptance, in every phase; while
OFFLINE = 1 also PHASE and CRC. It clears RVALID and ARA_NONE when accepted. The queues of host and bridge, `reads`,
`draws` and `hostFault` are the model's (logs 5, 7, 10, 11). -/
def Obligations.BusCommandsFrame : Prop :=
  ∀ (i : Instr) (s s' : State), i.isBus = true → exec i s = .next s' →
    s'.pecEn = s.pecEn ∧ s'.offline = s.offline ∧ s'.rdata = s.rdata ∧ s'.txlog = s.txlog ∧
    s'.rxlog = s.rxlog ∧ s'.reads = s.reads ∧ s'.draws = s.draws ∧ s'.hostActs = s.hostActs ∧
    s'.bridge = s.bridge ∧ s'.turns = s.turns ∧ s'.params = s.params ∧
    (s.phase = .idle → s'.ovr = s.ovr ∧ s'.hostFault = s.hostFault ∧
      s'.rvalid = false ∧ s'.araNone = false) ∧
    (s.phase ≠ .idle → s'.phase = s.phase ∧ s'.crc = s.crc ∧ s'.rvalid = s.rvalid ∧
      s'.araNone = s.araNone ∧ s'.outcome = s.outcome ∧ s'.err = s.err) ∧
    (s.offline = true → s'.phase = s.phase ∧ s'.crc = s.crc)

/-- R143: `recvs(m)`; every read requests at least one byte and its symbols hold exactly `m` requests; a write requests
none. -/
def Obligations.ReceiveRequests : Prop :=
  (∀ k : Nat, recvs (k + 1) = List.replicate k .recv ++ [.recvLast]) ∧
  (∀ (p : Params) (op : BusOp) (a7 : Addr7) (cmd : Byte) (d16 : Half) (pec : Bool),
    (op.isWrite = false → 1 ≤ nrequested op pec ∧
      (symbols p op a7 cmd d16 pec).count .recv = nrequested op pec - 1 ∧
      (symbols p op a7 cmd d16 pec).count .recvLast = 1) ∧
    (op.isWrite = true → nrequested op pec = 0 ∧ requestCount (symbols p op a7 cmd d16 pec) = 0))

/-- R134: a transaction's line begins with the start token and ends with the stop token and the end of line, with one
start and one stop, and a repeated start exactly for RDW and RDB. -/
def Obligations.LineShape : Prop :=
  ∀ (p : Params) (op : BusOp) (a7 : Addr7) (cmd : Byte) (d16 : Half) (pec : Bool),
    (∃ body : List Symbol, symbols p op a7 cmd d16 pec = .start :: (body ++ [.stop]) ∧
      body.count .start = 0 ∧ body.count .stop = 0 ∧
      body.count .rstart = (if op = .rdw ∨ op = .rdb then 1 else 0)) ∧
    (∃ middle : Text, (capture p op a7 cmd d16 pec).line =
      p.tokens.tokStart ++ middle ++ p.tokens.tokStop ++ p.tokens.tokEol)

/-- R134: the spelling of symbols as characters. -/
def Obligations.SpellingOfSymbols : Prop :=
  ∀ (t : TokenMap) (b : Byte) (s : Symbol) (ss : List Symbol),
    spell t [] = t.tokEol ∧ spell t (s :: ss) = tok t s ++ spell t ss ∧
    tok t .start = t.tokStart ∧ tok t .rstart = t.tokRstart ∧ tok t (.send b) = t.tokSend ++ hex2 b ∧
    tok t .recv = t.tokRecv ∧ tok t .recvLast = t.tokRecvLast ∧ tok t .stop = t.tokStop

/-- R133: "writes append a trailing checksum byte over all written bytes": what a write sends is its covered bytes and,
checked, their CRC; what a read sends is its covered bytes, but for the read address of RDW and RDB under
WRITE_ADDR_ONLY. -/
def Obligations.CoveredBytesAreTheBytesSent : Prop :=
  ∀ (p : Params) (op : BusOp) (a7 : Addr7) (cmd : Byte) (d16 : Half) (pec : Bool),
    (op.isWrite = true →
      sentBytes (symbols p op a7 cmd d16 pec) =
        covered p op a7 cmd d16 ++ (if pec then [crc8 p.crcInit (covered p op a7 cmd d16)] else [])) ∧
    (op.isWrite = false →
      sentBytes (symbols p op a7 cmd d16 pec) = covered p op a7 cmd d16 ++
        (if p.pecReadCoverage = .writeAddrOnly ∧ (op = .rdw ∨ op = .rdb) then [a7 ++ 1#1] else []))

/-- Derived. In FRAMED the block's move emits TXN.line and goes to AWAITING_RESPONSE; it needs no input and is enabled
whatever the host and the bridge do (R135). That `step` is this move when the turn is the block's, listed or natural,
rests on the model's list of turns and natural order (log 7, the model's choice). -/
def Obligations.TransmitEmitsTheLine : Prop :=
  ∀ (s : State) (t : Txn), s.phase = .framed t →
    move .block s = .next { s with phase := .awaitingResponse t, txlog := s.txlog ++ [t.line] } ∧
    (s.turns = [] →
      step s = .next { s with phase := .awaitingResponse t, txlog := s.txlog ++ [t.line] }) ∧
    (∀ ts, s.turns = .block :: ts →
      step s = .next
        { s with turns := ts, phase := .awaitingResponse t, txlog := s.txlog ++ [t.line] })

/-! ## The response -/

/-- R180 and R181: the response step, row by row of the table, with everything it writes and leaves. -/
def Obligations.ResultsAreApplied : Prop :=
  ∀ (s : State) (t : Txn) (resp : Response) (c : Classified) (u : State),
    s.phase = .awaitingResponse t → c = classify s.params t resp →
    u = { s with rxlog := s.rxlog ++ [resp], crc := c.crcOut, offline := s.offline || c.offlineSeen, phase := .idle } →
    (∀ b0 b1 rest, c.res = .complete → t.op = .rdw → c.data = b0 :: b1 :: rest →
      respond resp s = { u with outcome := .complete, err := 0x00, rvalid := true, rdata := b1 ++ b0, araNone := false }) ∧
    (∀ b0 rest, c.res = .complete → (t.op = .rdb ∨ t.op = .rcv) → c.data = b0 :: rest →
      respond resp s = { u with outcome := .complete, err := 0x00, rvalid := true, rdata := 0#8 ++ b0, araNone := false }) ∧
    (∀ b0 rest, c.res = .complete → t.op = .ara → c.data = b0 :: rest →
      respond resp s =
        { u with outcome := .complete, err := 0x00, rvalid := true, rdata := 0#9 ++ b0.extractLsb' 1 7, araNone := false }) ∧
    (c.res = .complete → t.op.isWrite = true →
      respond resp s = { u with outcome := .complete, err := 0x00, rvalid := false, araNone := false }) ∧
    (c.res = .noResponder →
      respond resp s = { u with outcome := .complete, err := 0x00, rvalid := false, araNone := true }) ∧
    (c.res = .notAcked →
      respond resp s = { u with outcome := .notAcked, err := 0x01, rvalid := false, araNone := false }) ∧
    (c.res = .bridgeOffline →
      respond resp s = { u with outcome := .bridgeOffline, err := 0x02, rvalid := false, araNone := false }) ∧
    (c.res = .pecMismatch →
      respond resp s = { u with outcome := .pecMismatch, err := 0x04, rvalid := false, araNone := false }) ∧
    (c.res = .desync →
      respond resp s = { u with outcome := .desync, err := 0x08, rvalid := false, araNone := false }) ∧
    (c.res = .timeout →
      respond resp s = { u with outcome := .timeout, err := 0x10, rvalid := false, araNone := false })

/-- Derived. The expected region, the remainder, when the region is full, and the data (R171; that m = 0, as for a write,
makes the region full is marked derived there). -/
def Obligations.ExpectedRegion : Prop :=
  ∀ (t : Txn) (r : Text),
    expectedRegion t r ++ remainder t r = r ∧ (expectedRegion t r).length = min (2 * t.m) r.length ∧
    (regionFull t r = true ↔ 2 * t.m ≤ r.length ∧ ∀ c ∈ r.take (2 * t.m), isHexDigit c = true) ∧
    (regionFull t r = false → responseData t r = []) ∧
    (regionFull t r = true → t.n ≤ t.m →
      (responseData t r).length = t.n ∧
      ∀ k, k < t.n → (responseData t r)[k]? = some (byteOf (r.getD (2 * k) ' ') (r.getD (2 * k + 1) ' '))) ∧
    (t.m = 0 → regionFull t r = true)

/-- R174: the first outcome whose test holds, in the order of steps 0 to 7, written as conditions on the response. -/
def Obligations.ClassificationOrder : Prop :=
  ∀ (p : Params) (t : Txn),
    (classify p t none).res = .timeout ∧ (classify p t none).data = [] ∧
    (classify p t none).offlineSeen = false ∧ (classify p t none).crcOut = crc8 p.crcInit t.cb ∧
    ∀ (r : Text) (mismatch : Prop),
      (mismatch ↔ t.pec = true ∧ 0 < t.n ∧ regionFull t r = true ∧ receivedPec t r ≠ crcAfter p t r) →
      ((classify p t (some r)).res = .pecMismatch ↔ mismatch) ∧
      ((classify p t (some r)).res = .bridgeOffline ↔ ¬mismatch ∧ p.tokens.offlineCh ∈ r) ∧
      ((classify p t (some r)).res = .noResponder ↔
        ¬mismatch ∧ p.tokens.offlineCh ∉ r ∧ p.tokens.nackCh ∈ r ∧ t.op = .ara) ∧
      ((classify p t (some r)).res = .notAcked ↔
        ¬mismatch ∧ p.tokens.offlineCh ∉ r ∧ p.tokens.nackCh ∈ r ∧ t.op ≠ .ara) ∧
      ((classify p t (some r)).res = .timeout ↔
        p.tokens.offlineCh ∉ r ∧ p.tokens.nackCh ∉ r ∧ r.length < 2 * t.m) ∧
      ((classify p t (some r)).res = .desync ↔
        ¬mismatch ∧ p.tokens.offlineCh ∉ r ∧ p.tokens.nackCh ∉ r ∧ 2 * t.m ≤ r.length ∧
        (regionFull t r = false ∨ 2 * t.m < r.length)) ∧
      ((classify p t (some r)).res = .complete ↔
        ¬mismatch ∧ p.tokens.offlineCh ∉ r ∧ p.tokens.nackCh ∉ r ∧ r.length = 2 * t.m ∧
        regionFull t r = true) ∧
      (mismatch ∨ (p.tokens.offlineCh ∉ r ∧ p.tokens.nackCh ∉ r) →
        (classify p t (some r)).data = responseData t r) ∧
      (¬mismatch → (p.tokens.offlineCh ∈ r ∨ p.tokens.nackCh ∈ r) → (classify p t (some r)).data = []) ∧
      ((classify p t (some r)).offlineSeen = true ↔ p.tokens.offlineCh ∈ r) ∧
      (classify p t (some r)).crcOut =
        (if regionFull t r = true then crc8 p.crcInit (t.cb ++ responseData t r) else crc8 p.crcInit t.cb)

/-- The decoder never turns an error into a value: a response ends as COMPLETE exactly when it is the `2m` hex digits
asked for, no more and no less, and, in a checked read, the PEC received is the one recomputed (R174, R175, R184). The
sentinels being no hex digits is R8's side condition. -/
def Obligations.CompleteExactlyForAFaithfulResponse : Prop :=
  ∀ (p : Params) (op : BusOp) (a7 : Addr7) (cmd : Byte) (d16 : Half) (pec : Bool) (resp : Response) (t : Txn),
    p.tokens.wf = true → t = capture p op a7 cmd d16 pec →
    ((classify p t resp).res = .complete ↔
      ∃ r : Text, resp = some r ∧ r.length = 2 * t.m ∧ (∀ c ∈ r, isHexDigit c = true) ∧
        (pec = true → op.isWrite = false →
          byteOf (r.getD (2 * t.n) ' ') (r.getD (2 * t.n + 1) ' ') =
            crc8 p.crcInit (t.cb ++ (classify p t resp).data)))

/-- R176 (in part marked derived): a response with the not-acknowledge sentinel and without the offline sentinel, in
unchecked mode or with a sentinel in the expected region, ends as not acknowledged (for ARA, as no responder), and
returns no value. -/
def Obligations.NackReturnsNoValue : Prop :=
  ∀ (s : State) (t : Txn) (r : Text), s.params.tokens.wf = true → s.phase = .awaitingResponse t →
    s.params.tokens.nackCh ∈ r → s.params.tokens.offlineCh ∉ r →
    (t.pec = false ∨ s.params.tokens.nackCh ∈ r.take (2 * t.m)) →
    (respond (some r) s).rvalid = false ∧ (respond (some r) s).rdata = s.rdata ∧
    (respond (some r) s).offline = s.offline ∧ (respond (some r) s).rxlog = s.rxlog ++ [some r] ∧
    (t.op ≠ .ara → (respond (some r) s).outcome = .notAcked ∧ (respond (some r) s).err = 0x01) ∧
    (t.op = .ara → (respond (some r) s).outcome = .complete ∧ (respond (some r) s).err = 0x00 ∧
      (respond (some r) s).araNone = true)

/-- R177 (marked derived): the responses of WRW, WRB and SND. -/
def Obligations.WriteResponses : Prop :=
  ∀ (s : State) (t : Txn) (a7 : Addr7) (cmd : Byte) (d16 : Half) (op : BusOp) (pec : Bool),
    op.isWrite = true → t = capture s.params op a7 cmd d16 pec → s.phase = .awaitingResponse t →
    (respond none s).outcome = .timeout ∧
    ∀ r : Text,
      ((respond (some r) s).outcome = .complete ↔ r = []) ∧
      ((respond (some r) s).outcome = .bridgeOffline ↔ s.params.tokens.offlineCh ∈ r) ∧
      ((respond (some r) s).outcome = .notAcked ↔
        s.params.tokens.nackCh ∈ r ∧ s.params.tokens.offlineCh ∉ r) ∧
      ((respond (some r) s).outcome = .desync ↔
        r ≠ [] ∧ s.params.tokens.nackCh ∉ r ∧ s.params.tokens.offlineCh ∉ r)

/-- R182 (in part marked derived): CRC after the response. -/
def Obligations.CrcAfterTheResponse : Prop :=
  ∀ (s : State) (t : Txn), s.phase = .awaitingResponse t →
    (respond none s).crc = crc8 s.params.crcInit t.cb ∧
    ∀ r : Text,
      (regionFull t r = true →
        (respond (some r) s).crc = crc8 s.params.crcInit (t.cb ++ responseData t r)) ∧
      (regionFull t r = false → (respond (some r) s).crc = crc8 s.params.crcInit t.cb) ∧
      ((respond (some r) s).outcome = .complete → (respond (some r) s).araNone = false →
        t.pec = true → 0 < t.n → (respond (some r) s).crc = receivedPec t r) ∧
      ((respond (some r) s).outcome = .pecMismatch → (respond (some r) s).crc ≠ receivedPec t r) ∧
      (t.n = 0 → (respond (some r) s).crc = crc8 s.params.crcInit t.cb)

/-- R31: the OFFLINE latch is set by any response that contains OFFLINE_CH, at any position and whatever outcome is
reported; only reset clears it; while it stands every bus command ends at once as BRIDGE_OFFLINE and emits nothing. -/
def Obligations.OfflineLatch : Prop :=
  (∀ (s : State) (t : Txn) (before after : Text), s.phase = .awaitingResponse t →
    (respond (some (before ++ s.params.tokens.offlineCh :: after)) s).offline = true) ∧
  (∀ (s : State) (t : Txn) (r : Text), s.phase = .awaitingResponse t → s.params.tokens.offlineCh ∉ r →
    (respond (some r) s).offline = s.offline ∧ (respond none s).offline = s.offline) ∧
  (∀ (s s' : State), step s = .next s' → s.offline = true → s'.offline = true ∨ s.resetsNow) ∧
  (∀ (i : Instr) (s : State), i.isBus = true → s.phase = .idle → s.offline = true →
    ∃ s', exec i s = .next s' ∧ s'.outcome = .bridgeOffline ∧ s'.phase = .idle ∧ s'.txlog = s.txlog)

/-! ## Whole-machine rules -/

/-- R30 (marked derived): the phase transitions, and no others. From IDLE only an accepted bus command leads out, and
TXN is then what that command's word says; from FRAMED only the emission of TXN.line or reset; from AWAITING_RESPONSE
only the delivery of a response, with an outcome, or reset. Who moves is plain data of the model (log 7). -/
def Obligations.PhaseTransitions : Prop :=
  ∀ (s s' : State), step s = .next s' →
    (s.phase = .idle → s'.phase = .idle ∨
      ∃ w i op a7 cmd d16, s.actNow = some (.command w) ∧ decode w = .command i ∧
        i.busParts = some (op, a7, cmd, d16) ∧ s.offline = false ∧
        s'.phase = .framed (capture s.params op a7 cmd d16 s.pecEn)) ∧
    (∀ t, s.phase = .framed t →
      s'.phase = .framed t ∨
      (s'.phase = .awaitingResponse t ∧ s.mover = .block ∧ s'.txlog = s.txlog ++ [t.line]) ∨
      (s'.phase = .idle ∧ s.resetsNow)) ∧
    (∀ t, s.phase = .awaitingResponse t →
      s'.phase = .awaitingResponse t ∨
      (s'.phase = .idle ∧ s.mover = .bridge ∧ s'.outcome ≠ .none ∧
        ∃ resp, s.bridge.head? = some resp ∧ s'.rxlog = s.rxlog ++ [resp]) ∨
      (s'.phase = .idle ∧ s.resetsNow))

/-- R183: no retry. A line is emitted only by the transmission of the outstanding transaction, a transaction begins
only with a command word of the host's, and a response step emits nothing. -/
def Obligations.NoRetry : Prop :=
  ∀ (s s' : State), step s = .next s' →
    (s'.txlog = s.txlog ∨
      ∃ t, s.phase = .framed t ∧ s.mover = .block ∧ s'.txlog = s.txlog ++ [t.line] ∧
        s'.phase = .awaitingResponse t) ∧
    (∀ t, s'.phase = .framed t → s.phase = .framed t ∨
      ∃ w, s.actNow = some (.command w) ∧ s.hostActs = .command w :: s'.hostActs) ∧
    (s'.rxlog ≠ s.rxlog → s'.txlog = s.txlog ∧ s'.phase = .idle)

/-- R22: CONFIG holds PEC_EN in bit 0 and zeros above; only SETMODE and reset write it; a transaction outstanding
keeps the mode it was issued with. -/
def Obligations.OnlySetmodeWritesConfig : Prop :=
  (∀ s : State, configWord s = 0#7 ++ BitVec.ofBool s.pecEn) ∧
  (∀ (s s' : State), step s = .next s' →
    s'.pecEn = s.pecEn ∨
    (∃ w mode, s.actNow = some (.command w) ∧ decode w = .command (.setmode mode) ∧ s.phase = .idle ∧
      s'.pecEn = mode) ∨
    (s.resetsNow ∧ s'.pecEn = s.params.pecEnAtReset)) ∧
  (∀ (s : State) (t : Txn), Reachable s → s.txn = some t → t.pec = s.pecEn)

/-- R25: ERR is the one-hot flag of OUTCOME, written exactly when OUTCOME is. -/
def Obligations.ErrIsOneHotOfOutcome : Prop :=
  errFlag .none = 0b00000000 ∧ errFlag .complete = 0b00000000 ∧
  errFlag .notAcked = 0b00000001 ∧ errFlag .bridgeOffline = 0b00000010 ∧
  errFlag .pecMismatch = 0b00000100 ∧ errFlag .desync = 0b00001000 ∧
  errFlag .timeout = 0b00010000 ∧ errFlag .illegal = 0b00100000 ∧
  (∀ (s s' : State), step s = .next s' →
    (s'.outcome = s.outcome ∧ s'.err = s.err) ∨ s'.err = errFlag s'.outcome) ∧
  (∀ s : State, Reachable s → s.err = errFlag s.outcome)

/-- RDATA changes only when a read completes with a value, or at reset (10_state.md R33, marked derived). -/
def Obligations.RdataChangesOnlyWithAValue : Prop :=
  ∀ (s s' : State), step s = .next s' → s'.rdata ≠ s.rdata →
    s.resetsNow ∨
    (∃ t, s.phase = .awaitingResponse t ∧ t.op.isWrite = false ∧ s.mover = .bridge ∧
      s'.rvalid = true ∧ s'.outcome = .complete)

/-- Derived. While RVALID = 0 the value in RDATA can be learnt by nobody (R26 gives such a read no value: a fault or an
unconstrained draw). Two machines that differ only there read the same at every index, and after any step either are
equal or still differ only there. That a dead read shows both machines one value is the model's choice: it draws a free
value that depends on the count of draws alone (log 5). -/
def Obligations.DeadRdataIsNeverObserved : Prop :=
  ∀ (s t : State), SameButDeadRdata s t →
    (∀ index : Byte, readPort index s = readPort index t) ∧
    (∀ s', step s = .next s' → step t = .next s' ∨ ∃ t', step t = .next t' ∧ SameButDeadRdata s' t')

/-! ## The register port -/

/-- Derived. What the port returns at each index, at any time, and that a read changes no state of the block (R21). That
a read is a step of its own, the list of values read and the count of free draws are the model's choice (logs 5, 11). -/
def Obligations.RegisterPortMap : Prop :=
  ∀ s : State,
    readPort 0x00 s = statusWord s ∧ readPort 0x01 s = 0#8 ++ s.err ∧
    (s.rvalid = true → readPort 0x02 s = s.rdata) ∧
    readPort 0x03 s = 0#8 ++ s.crc ∧ readPort 0x04 s = 0#8 ++ configWord s ∧
    (∀ index : Byte, 0x05 ≤ index.toNat → readPort index s = 0x0000) ∧
    (∀ index : Byte, ∃ k, hostAct (.readRegister index) s =
      .next { s with reads := s.reads ++ [(index, readPort index s)], draws := k })

/-- R23: the bits of STATUS. -/
def Obligations.StatusLayout : Prop :=
  ∀ s : State,
    (statusWord s).getLsbD 0 = decide (s.phase ≠ .idle) ∧
    ((statusWord s).extractLsb' 1 2 = 0b00 ↔ s.phase = .idle) ∧
    ((statusWord s).extractLsb' 1 2 = 0b01 ↔ ∃ t, s.phase = .framed t) ∧
    ((statusWord s).extractLsb' 1 2 = 0b10 ↔ ∃ t, s.phase = .awaitingResponse t) ∧
    (statusWord s).getLsbD 3 = s.pecEn ∧ (statusWord s).getLsbD 4 = s.offline ∧
    (statusWord s).getLsbD 5 = s.rvalid ∧ (statusWord s).getLsbD 6 = s.araNone ∧
    (statusWord s).getLsbD 7 = s.ovr ∧ (statusWord s).extractLsb' 8 4 = outcomeCode s.outcome ∧
    (statusWord s).extractLsb' 12 4 = 0 ∧
    outcomeCode .none = 0 ∧ outcomeCode .complete = 1 ∧ outcomeCode .notAcked = 2 ∧
    outcomeCode .bridgeOffline = 3 ∧ outcomeCode .pecMismatch = 4 ∧ outcomeCode .desync = 5 ∧
    outcomeCode .timeout = 6 ∧ outcomeCode .illegal = 7

/-! ## Reset -/

/-- Derived. The reset values, of the reset input and of the state a run starts from (R34). RDATA is left out: R34 gives
it no value. The clauses on `State.reset` use the spec's defaults of the parameters (log 3). -/
def Obligations.ResetValues : Prop :=
  (∀ s : State, ∃ v : Half, hostAct .reset s = .next { s with
    phase := .idle, pecEn := s.params.pecEnAtReset, offline := false, rvalid := false, araNone := false,
    ovr := false, outcome := .none, err := 0x00, crc := s.params.crcInit, rdata := v }) ∧
  (∀ s : State, assertReset s = { s with
    phase := .idle, pecEn := s.params.pecEnAtReset, offline := false, rvalid := false, araNone := false,
    ovr := false, outcome := .none, err := 0x00, crc := s.params.crcInit, rdata := (assertReset s).rdata }) ∧
  State.reset.phase = .idle ∧ State.reset.txn = none ∧ configWord State.reset = 0x00 ∧
  statusWord State.reset = 0x0000 ∧ State.reset.err = 0x00 ∧ State.reset.crc = 0x00 ∧
  State.reset.txlog = [] ∧ State.reset.rxlog = []

/-- Derived. Reset sets every piece of the block's state to its reset value in every phase (RDATA, which has none,
aside); it abandons the transaction, before its line is emitted or its response is decoded; lines already logged stay,
and a response that comes later is consumed by no step of the block or the bridge (R230). That block and bridge then
leave the state as it is when their turn comes is inferred (log 9). -/
def Obligations.ResetAbandonsTheTransaction : Prop :=
  ∀ s : State, ∃ t, hostAct .reset s = .next t ∧ t.txn = none ∧
    t = { s with
      phase := .idle, pecEn := s.params.pecEnAtReset, offline := false, rvalid := false, araNone := false,
      ovr := false, outcome := .none, err := 0x00, crc := s.params.crcInit, rdata := t.rdata } ∧
    move .block t = .next t ∧ move .bridge t = .next t

/-! ## The invariant -/

/-- The state after reset, and every state a run starts from, meets the invariant. -/
def Obligations.InvariantHoldsAtReset : Prop :=
  State.reset.Inv ∧
  ∀ (p : Params) (acts : List HostAct) (bridge : List Response) (turns : List Agent),
    p.tokens.wf = true → (startState p acts bridge turns).Inv

/-- Every step keeps the invariant, from every state that meets it. -/
def Obligations.EveryStepKeepsTheInvariant : Prop :=
  ∀ (s s' : State), s.Inv → step s = .next s' → s'.Inv

/-- R246 (marked derived): in every state a run reaches, while BUSY = 1 STATUS.OUTCOME reads NONE, ERR 0x00, RVALID 0,
and CRC holds `crc8(CRC_INIT, TXN.cb)`. -/
def Obligations.MidTransactionStatus : Prop :=
  ∀ s : State, Reachable s → s.busy = true →
    ∃ t, s.txn = some t ∧ (statusWord s).extractLsb' 8 4 = 0 ∧ readPort 0x01 s = 0x0000 ∧
      (statusWord s).getLsbD 5 = false ∧ readPort 0x03 s = 0#8 ++ crc8 s.params.crcInit t.cb ∧
      s.offline = false

/-! ## Whole transactions -/

/-- R251: from FRAMED, two steps in natural order bring any response, the timeout included, to an outcome; without a
response the block stays in AWAITING_RESPONSE (the natural order is the model's, log 7). -/
def Obligations.TransactionEndsWithItsResponse : Prop :=
  (∀ (s : State) (t : Txn) (resp : Response) (rest : List Response),
    s.phase = .framed t → s.turns = [] → s.bridge = resp :: rest →
    ∃ s', Sys2Proof.core.run 2 s = .next s' ∧ s'.phase = .idle ∧ s'.outcome ≠ .none ∧
      s'.outcome ≠ .illegal ∧ s'.txlog = s.txlog ++ [t.line] ∧ s'.rxlog = s.rxlog ++ [resp] ∧
      s'.bridge = rest ∧ s'.hostActs = s.hostActs) ∧
  (∀ (s : State) (t : Txn), s.phase = .awaitingResponse t → s.turns = [] → s.bridge = [] →
    step s = .next s)

/-- Derived. A checked RDW, from the command word to the value: three steps (R250), if the bridge answers with the two
data bytes, low byte first, and the PEC over address, command and data (R55, R133, R136, R180). No turn is listed, so
host, block and bridge move in the natural order, which is the model's choice (log 7). -/
def Obligations.CheckedReadWordEndToEnd : Prop :=
  ∀ (s : State) (a7 : Addr7) (cmd hi lo : Byte) (acts : List HostAct) (rest : List Response) (cb : List Byte),
    s.params.tokens.wf = true → s.phase = .idle → s.offline = false → s.pecEn = true → s.turns = [] →
    cb = (if s.params.pecReadCoverage = .both then [a7 ++ 0#1, cmd, a7 ++ 1#1] else [a7 ++ 0#1, cmd]) →
    s.hostActs = .command (encode (.rdw a7 cmd)) :: acts →
    s.bridge = some (hex2 lo ++ hex2 hi ++ hex2 (crc8 s.params.crcInit (cb ++ [lo, hi]))) :: rest →
    Sys2Proof.core.run 3 s = .next { s with
      hostActs := acts, bridge := rest,
      txlog := s.txlog ++ [spell s.params.tokens
        [.start, .send (a7 ++ 0#1), .send cmd, .rstart, .send (a7 ++ 1#1), .recv, .recv, .recvLast, .stop]],
      rxlog := s.rxlog ++ [some (hex2 lo ++ hex2 hi ++ hex2 (crc8 s.params.crcInit (cb ++ [lo, hi])))],
      rdata := hi ++ lo, rvalid := true, araNone := false, outcome := .complete, err := 0x00,
      crc := crc8 s.params.crcInit (cb ++ [lo, hi]) }

/-- A checked RDW whose PEC does not match ends as PEC_MISMATCH and delivers nothing, whatever follows the expected
region, sentinels among it (R174 step 1, R175, R180). -/
def Obligations.CheckedReadWordRejectsAWrongPec : Prop :=
  ∀ (s : State) (a7 : Addr7) (cmd hi lo wrong : Byte) (after : Text) (t : Txn),
    s.params.tokens.wf = true → t = capture s.params .rdw a7 cmd 0 true → s.phase = .awaitingResponse t →
    wrong ≠ crc8 s.params.crcInit (t.cb ++ [lo, hi]) →
    respond (some (hex2 lo ++ hex2 hi ++ hex2 wrong ++ after)) s = { s with
      phase := .idle, outcome := .pecMismatch, err := 0x04, rvalid := false, araNone := false,
      crc := crc8 s.params.crcInit (t.cb ++ [lo, hi]),
      offline := s.offline || after.contains s.params.tokens.offlineCh,
      rxlog := s.rxlog ++ [some (hex2 lo ++ hex2 hi ++ hex2 wrong ++ after)] }

/-- Derived. WRW, from the command word to COMPLETE: three steps (R250), if the bridge answers with an empty line (R137;
R177, marked derived), in either mode. No turn is listed, so host, block and bridge move in the natural order, which is
the model's choice (log 7). -/
def Obligations.WriteWordEndToEnd : Prop :=
  ∀ (s : State) (a7 : Addr7) (cmd hi lo : Byte) (acts : List HostAct) (rest : List Response) (pec : Byte),
    s.phase = .idle → s.offline = false → s.turns = [] →
    pec = crc8 s.params.crcInit [a7 ++ 0#1, cmd, lo, hi] →
    s.hostActs = .command (encode (.wrw a7 cmd (hi ++ lo))) :: acts → s.bridge = some [] :: rest →
    Sys2Proof.core.run 3 s = .next { s with
      hostActs := acts, bridge := rest,
      txlog := s.txlog ++ [spell s.params.tokens
        ([.start, .send (a7 ++ 0#1), .send cmd, .send lo, .send hi] ++
         (if s.pecEn then [.send pec] else []) ++ [.stop])],
      rxlog := s.rxlog ++ [some []],
      rvalid := false, araNone := false, outcome := .complete, err := 0x00, crc := pec }
end

