-- ==== Sys2Proof/Laws/Bits.lean ====
section
/-! SUPPORT. The byte helpers on words built from bytes. -/

namespace Sys2Proof.Machine

@[simp] theorem loByte_append (hi lo : Byte) : loByte (hi ++ lo) = lo := by
  apply BitVec.eq_of_getLsbD_eq
  intro i hi'
  have := BitVec.getLsbD_append (x := hi) (y := lo) (i := i)
  simp [loByte, hi', this]

@[simp] theorem hiByte_append (hi lo : Byte) : hiByte (hi ++ lo) = hi := by
  apply BitVec.eq_of_getLsbD_eq
  intro i hi'
  have := BitVec.getLsbD_append (x := hi) (y := lo) (i := 8 + i)
  simp [hiByte, hi', this]

/-- A byte zero-extended to a word (10_state.md R21) is that byte below a zero byte. -/
theorem setWidth_eq_append (b : Byte) : b.setWidth 16 = (0#8 ++ b : Half) := by
  apply BitVec.eq_of_getLsbD_eq
  intro i hi'
  have := BitVec.getLsbD_append (x := 0#8) (y := b) (i := i)
  rw [this]
  by_cases h : i < 8
  · simp [h, hi']
  · simp [h, hi', BitVec.getLsbD_of_ge b i (by omega)]

@[simp] theorem loByte_setWidth (b : Byte) : loByte (b.setWidth 16) = b := by
  rw [setWidth_eq_append, loByte_append]

@[simp] theorem hiByte_setWidth (b : Byte) : hiByte (b.setWidth 16) = 0 := by
  rw [setWidth_eq_append, hiByte_append]; rfl

end Sys2Proof.Machine
end

