-- ==== Sys2Proof/Laws/Crc.lean ====
section
/-! SUPPORT. The small lemmas of the checksum unit. -/

namespace Sys2Proof.Machine

@[simp] theorem crc8_nil (init : Byte) : crc8 init [] = init := rfl

@[simp] theorem crc8_cons (init b : Byte) (bs : List Byte) :
    crc8 init (b :: bs) = crc8 (crc8Step init b) bs := rfl

theorem crc8Step_eq (c b : Byte) : crc8Step c b = crc8Step 0 (c ^^^ b) := by
  simp [crc8Step]

end Sys2Proof.Machine
end

