-- ==== Sys2Proof/Laws/Decode.lean ====
section
/-! SUPPORT. What the decoder answers, said once for all rows of the opcode map: no two rows select one word. -/

namespace Sys2Proof

/-- Every mask of the table covers the whole opcode field, so a row selects only words of its own opcode. -/
theorem opc_of_selects {r : Row} (hr : r ∈ table) {w : CmdWord} (h : r.selects w = true) :
    opcOf w = opcOf r.pattern := by
  have hm : opcOf r.mask = 0xFF := by
    simp only [table, List.mem_cons, List.not_mem_nil, or_false] at hr
    rcases hr with rfl | rfl | rfl | rfl | rfl | rfl | rfl | rfl | rfl | rfl | rfl <;> rfl
  have hp : w &&& r.mask = r.pattern := by simpa [Row.selects] using h
  have ha : opcOf (w &&& r.mask) = opcOf w &&& opcOf r.mask := by
    simp [opcOf, BitVec.extractLsb'_and]
  rw [← hp, ha, hm]
  exact (BitVec.and_allOnes (x := opcOf w)).symm

/-- Two rows of the table with one opcode are one row. -/
theorem row_eq_of_opc {r r' : Row} (hr : r ∈ table) (hr' : r' ∈ table)
    (h : opcOf r.pattern = opcOf r'.pattern) : r = r' := by
  simp only [table, List.mem_cons, List.not_mem_nil, or_false] at hr hr'
  rcases hr with rfl | rfl | rfl | rfl | rfl | rfl | rfl | rfl | rfl | rfl | rfl <;>
    rcases hr' with rfl | rfl | rfl | rfl | rfl | rfl | rfl | rfl | rfl | rfl | rfl <;>
    first | rfl | exact absurd h (by decide)

/-- No two rows overlap: a row that selects a word is the row the decoder takes. -/
theorem decode_of_selects {r : Row} (hr : r ∈ table) {w : CmdWord} (h : r.selects w = true) :
    decode w = .command (r.build w) := by
  unfold decode
  split
  · rename_i r' hf
    have hr' := List.mem_of_find?_eq_some hf
    have hs : r'.selects w = true := by simpa using List.find?_some hf
    rw [row_eq_of_opc hr' hr ((opc_of_selects hr' hs).symm.trans (opc_of_selects hr h))]
  · rename_i hf
    exact absurd h (by simpa using List.find?_eq_none.1 hf r hr)

/-- A word decodes to a command exactly when a row selects it and builds that command. -/
theorem decode_command_iff {w : CmdWord} {i : Instr} :
    decode w = .command i ↔ ∃ r ∈ table, r.selects w = true ∧ r.build w = i := by
  constructor
  · intro h
    unfold decode at h
    split at h
    · rename_i r hf
      injection h with h
      exact ⟨r, List.mem_of_find?_eq_some hf, by simpa using List.find?_some hf, h⟩
    · cases h
  · rintro ⟨r, hr, hs, rfl⟩
    exact decode_of_selects hr hs

/-- A word is illegal exactly when no row selects it, with R76's reason. -/
theorem decode_illegal_iff {w : CmdWord} {why : IllegalWord} :
    decode w = .illegal why ↔ (∀ r ∈ table, r.selects w = false) ∧
      why = if opcListed (opcOf w) then .mustBeZero else .reservedOpcode := by
  constructor
  · intro h
    unfold decode at h
    split at h
    · cases h
    · rename_i hf
      injection h with h
      exact ⟨fun r hr => by simpa using List.find?_eq_none.1 hf r hr, h.symm⟩
  · rintro ⟨hn, rfl⟩
    unfold decode
    split
    · rename_i r hf
      have hs : r.selects w = true := by simpa using List.find?_some hf
      rw [hn r (List.mem_of_find?_eq_some hf)] at hs
      cases hs
    · rfl

end Sys2Proof
end

