-- ==== Sys2Proof/Laws/State.lean ====
section
/-! SUPPORT. What each shared update of State leaves in each field: one lemma per field and update. -/

namespace Sys2Proof.Machine

/-! ### report -/

@[simp] theorem report_phase (o : OutcomeCode) (s : State) : (report o s).phase = s.phase := rfl
@[simp] theorem report_pecEn (o : OutcomeCode) (s : State) : (report o s).pecEn = s.pecEn := rfl
@[simp] theorem report_offline (o : OutcomeCode) (s : State) : (report o s).offline = s.offline := rfl
@[simp] theorem report_rvalid (o : OutcomeCode) (s : State) : (report o s).rvalid = s.rvalid := rfl
@[simp] theorem report_araNone (o : OutcomeCode) (s : State) : (report o s).araNone = s.araNone := rfl
@[simp] theorem report_ovr (o : OutcomeCode) (s : State) : (report o s).ovr = s.ovr := rfl
@[simp] theorem report_outcome (o : OutcomeCode) (s : State) : (report o s).outcome = o := rfl
@[simp] theorem report_err (o : OutcomeCode) (s : State) : (report o s).err = errFlag o := rfl
@[simp] theorem report_rdata (o : OutcomeCode) (s : State) : (report o s).rdata = s.rdata := rfl
@[simp] theorem report_crc (o : OutcomeCode) (s : State) : (report o s).crc = s.crc := rfl
@[simp] theorem report_txlog (o : OutcomeCode) (s : State) : (report o s).txlog = s.txlog := rfl
@[simp] theorem report_rxlog (o : OutcomeCode) (s : State) : (report o s).rxlog = s.rxlog := rfl
@[simp] theorem report_hostFault (o : OutcomeCode) (s : State) : (report o s).hostFault = s.hostFault := rfl
@[simp] theorem report_reads (o : OutcomeCode) (s : State) : (report o s).reads = s.reads := rfl
@[simp] theorem report_draws (o : OutcomeCode) (s : State) : (report o s).draws = s.draws := rfl
@[simp] theorem report_hostActs (o : OutcomeCode) (s : State) : (report o s).hostActs = s.hostActs := rfl
@[simp] theorem report_bridge (o : OutcomeCode) (s : State) : (report o s).bridge = s.bridge := rfl
@[simp] theorem report_turns (o : OutcomeCode) (s : State) : (report o s).turns = s.turns := rfl
@[simp] theorem report_params (o : OutcomeCode) (s : State) : (report o s).params = s.params := rfl

/-! ### clearResult -/

@[simp] theorem clearResult_phase (s : State) : (clearResult s).phase = s.phase := rfl
@[simp] theorem clearResult_pecEn (s : State) : (clearResult s).pecEn = s.pecEn := rfl
@[simp] theorem clearResult_offline (s : State) : (clearResult s).offline = s.offline := rfl
@[simp] theorem clearResult_rvalid (s : State) : (clearResult s).rvalid = false := rfl
@[simp] theorem clearResult_araNone (s : State) : (clearResult s).araNone = false := rfl
@[simp] theorem clearResult_ovr (s : State) : (clearResult s).ovr = s.ovr := rfl
@[simp] theorem clearResult_outcome (s : State) : (clearResult s).outcome = s.outcome := rfl
@[simp] theorem clearResult_err (s : State) : (clearResult s).err = s.err := rfl
@[simp] theorem clearResult_rdata (s : State) : (clearResult s).rdata = s.rdata := rfl
@[simp] theorem clearResult_crc (s : State) : (clearResult s).crc = s.crc := rfl
@[simp] theorem clearResult_txlog (s : State) : (clearResult s).txlog = s.txlog := rfl
@[simp] theorem clearResult_rxlog (s : State) : (clearResult s).rxlog = s.rxlog := rfl
@[simp] theorem clearResult_hostFault (s : State) : (clearResult s).hostFault = s.hostFault := rfl
@[simp] theorem clearResult_reads (s : State) : (clearResult s).reads = s.reads := rfl
@[simp] theorem clearResult_draws (s : State) : (clearResult s).draws = s.draws := rfl
@[simp] theorem clearResult_hostActs (s : State) : (clearResult s).hostActs = s.hostActs := rfl
@[simp] theorem clearResult_bridge (s : State) : (clearResult s).bridge = s.bridge := rfl
@[simp] theorem clearResult_turns (s : State) : (clearResult s).turns = s.turns := rfl
@[simp] theorem clearResult_params (s : State) : (clearResult s).params = s.params := rfl

/-! ### dropWord -/

@[simp] theorem dropWord_phase (s : State) : (dropWord s).phase = s.phase := rfl
@[simp] theorem dropWord_pecEn (s : State) : (dropWord s).pecEn = s.pecEn := rfl
@[simp] theorem dropWord_offline (s : State) : (dropWord s).offline = s.offline := rfl
@[simp] theorem dropWord_rvalid (s : State) : (dropWord s).rvalid = s.rvalid := rfl
@[simp] theorem dropWord_araNone (s : State) : (dropWord s).araNone = s.araNone := rfl
@[simp] theorem dropWord_ovr (s : State) : (dropWord s).ovr = true := rfl
@[simp] theorem dropWord_outcome (s : State) : (dropWord s).outcome = s.outcome := rfl
@[simp] theorem dropWord_err (s : State) : (dropWord s).err = s.err := rfl
@[simp] theorem dropWord_rdata (s : State) : (dropWord s).rdata = s.rdata := rfl
@[simp] theorem dropWord_crc (s : State) : (dropWord s).crc = s.crc := rfl
@[simp] theorem dropWord_txlog (s : State) : (dropWord s).txlog = s.txlog := rfl
@[simp] theorem dropWord_rxlog (s : State) : (dropWord s).rxlog = s.rxlog := rfl
@[simp] theorem dropWord_hostFault (s : State) : (dropWord s).hostFault = true := rfl
@[simp] theorem dropWord_reads (s : State) : (dropWord s).reads = s.reads := rfl
@[simp] theorem dropWord_draws (s : State) : (dropWord s).draws = s.draws := rfl
@[simp] theorem dropWord_hostActs (s : State) : (dropWord s).hostActs = s.hostActs := rfl
@[simp] theorem dropWord_bridge (s : State) : (dropWord s).bridge = s.bridge := rfl
@[simp] theorem dropWord_turns (s : State) : (dropWord s).turns = s.turns := rfl
@[simp] theorem dropWord_params (s : State) : (dropWord s).params = s.params := rfl

/-! ### offlineRefusal -/

@[simp] theorem offlineRefusal_phase (s : State) : (offlineRefusal s).phase = s.phase := rfl
@[simp] theorem offlineRefusal_pecEn (s : State) : (offlineRefusal s).pecEn = s.pecEn := rfl
@[simp] theorem offlineRefusal_offline (s : State) : (offlineRefusal s).offline = s.offline := rfl
@[simp] theorem offlineRefusal_rvalid (s : State) : (offlineRefusal s).rvalid = false := rfl
@[simp] theorem offlineRefusal_araNone (s : State) : (offlineRefusal s).araNone = false := rfl
@[simp] theorem offlineRefusal_ovr (s : State) : (offlineRefusal s).ovr = s.ovr := rfl
@[simp] theorem offlineRefusal_outcome (s : State) : (offlineRefusal s).outcome = .bridgeOffline := rfl
@[simp] theorem offlineRefusal_err (s : State) : (offlineRefusal s).err = errFlag .bridgeOffline := rfl
@[simp] theorem offlineRefusal_rdata (s : State) : (offlineRefusal s).rdata = s.rdata := rfl
@[simp] theorem offlineRefusal_crc (s : State) : (offlineRefusal s).crc = s.crc := rfl
@[simp] theorem offlineRefusal_txlog (s : State) : (offlineRefusal s).txlog = s.txlog := rfl
@[simp] theorem offlineRefusal_rxlog (s : State) : (offlineRefusal s).rxlog = s.rxlog := rfl
@[simp] theorem offlineRefusal_hostFault (s : State) : (offlineRefusal s).hostFault = s.hostFault := rfl
@[simp] theorem offlineRefusal_reads (s : State) : (offlineRefusal s).reads = s.reads := rfl
@[simp] theorem offlineRefusal_draws (s : State) : (offlineRefusal s).draws = s.draws := rfl
@[simp] theorem offlineRefusal_hostActs (s : State) : (offlineRefusal s).hostActs = s.hostActs := rfl
@[simp] theorem offlineRefusal_bridge (s : State) : (offlineRefusal s).bridge = s.bridge := rfl
@[simp] theorem offlineRefusal_turns (s : State) : (offlineRefusal s).turns = s.turns := rfl
@[simp] theorem offlineRefusal_params (s : State) : (offlineRefusal s).params = s.params := rfl

/-! ### issue -/

@[simp] theorem issue_phase (op : BusOp) (a7 : Addr7) (cmd : Byte) (d16 : Half) (s : State) : (issue op a7 cmd d16 s).phase = .framed (capture s.params op a7 cmd d16 s.pecEn) := rfl
@[simp] theorem issue_pecEn (op : BusOp) (a7 : Addr7) (cmd : Byte) (d16 : Half) (s : State) : (issue op a7 cmd d16 s).pecEn = s.pecEn := rfl
@[simp] theorem issue_offline (op : BusOp) (a7 : Addr7) (cmd : Byte) (d16 : Half) (s : State) : (issue op a7 cmd d16 s).offline = s.offline := rfl
@[simp] theorem issue_rvalid (op : BusOp) (a7 : Addr7) (cmd : Byte) (d16 : Half) (s : State) : (issue op a7 cmd d16 s).rvalid = false := rfl
@[simp] theorem issue_araNone (op : BusOp) (a7 : Addr7) (cmd : Byte) (d16 : Half) (s : State) : (issue op a7 cmd d16 s).araNone = false := rfl
@[simp] theorem issue_ovr (op : BusOp) (a7 : Addr7) (cmd : Byte) (d16 : Half) (s : State) : (issue op a7 cmd d16 s).ovr = s.ovr := rfl
@[simp] theorem issue_outcome (op : BusOp) (a7 : Addr7) (cmd : Byte) (d16 : Half) (s : State) : (issue op a7 cmd d16 s).outcome = .none := rfl
@[simp] theorem issue_err (op : BusOp) (a7 : Addr7) (cmd : Byte) (d16 : Half) (s : State) : (issue op a7 cmd d16 s).err = errFlag .none := rfl
@[simp] theorem issue_rdata (op : BusOp) (a7 : Addr7) (cmd : Byte) (d16 : Half) (s : State) : (issue op a7 cmd d16 s).rdata = s.rdata := rfl
@[simp] theorem issue_crc (op : BusOp) (a7 : Addr7) (cmd : Byte) (d16 : Half) (s : State) : (issue op a7 cmd d16 s).crc = crc8 s.params.crcInit (covered s.params op a7 cmd d16) := rfl
@[simp] theorem issue_txlog (op : BusOp) (a7 : Addr7) (cmd : Byte) (d16 : Half) (s : State) : (issue op a7 cmd d16 s).txlog = s.txlog := rfl
@[simp] theorem issue_rxlog (op : BusOp) (a7 : Addr7) (cmd : Byte) (d16 : Half) (s : State) : (issue op a7 cmd d16 s).rxlog = s.rxlog := rfl
@[simp] theorem issue_hostFault (op : BusOp) (a7 : Addr7) (cmd : Byte) (d16 : Half) (s : State) : (issue op a7 cmd d16 s).hostFault = s.hostFault := rfl
@[simp] theorem issue_reads (op : BusOp) (a7 : Addr7) (cmd : Byte) (d16 : Half) (s : State) : (issue op a7 cmd d16 s).reads = s.reads := rfl
@[simp] theorem issue_draws (op : BusOp) (a7 : Addr7) (cmd : Byte) (d16 : Half) (s : State) : (issue op a7 cmd d16 s).draws = s.draws := rfl
@[simp] theorem issue_hostActs (op : BusOp) (a7 : Addr7) (cmd : Byte) (d16 : Half) (s : State) : (issue op a7 cmd d16 s).hostActs = s.hostActs := rfl
@[simp] theorem issue_bridge (op : BusOp) (a7 : Addr7) (cmd : Byte) (d16 : Half) (s : State) : (issue op a7 cmd d16 s).bridge = s.bridge := rfl
@[simp] theorem issue_turns (op : BusOp) (a7 : Addr7) (cmd : Byte) (d16 : Half) (s : State) : (issue op a7 cmd d16 s).turns = s.turns := rfl
@[simp] theorem issue_params (op : BusOp) (a7 : Addr7) (cmd : Byte) (d16 : Half) (s : State) : (issue op a7 cmd d16 s).params = s.params := rfl

/-! ### closeTransaction -/

@[simp] theorem closeTransaction_phase (resp : Response) (c : Classified) (s : State) : (closeTransaction resp c s).phase = .idle := rfl
@[simp] theorem closeTransaction_pecEn (resp : Response) (c : Classified) (s : State) : (closeTransaction resp c s).pecEn = s.pecEn := rfl
@[simp] theorem closeTransaction_offline (resp : Response) (c : Classified) (s : State) : (closeTransaction resp c s).offline = (s.offline || c.offlineSeen) := rfl
@[simp] theorem closeTransaction_rvalid (resp : Response) (c : Classified) (s : State) : (closeTransaction resp c s).rvalid = s.rvalid := rfl
@[simp] theorem closeTransaction_araNone (resp : Response) (c : Classified) (s : State) : (closeTransaction resp c s).araNone = s.araNone := rfl
@[simp] theorem closeTransaction_ovr (resp : Response) (c : Classified) (s : State) : (closeTransaction resp c s).ovr = s.ovr := rfl
@[simp] theorem closeTransaction_outcome (resp : Response) (c : Classified) (s : State) : (closeTransaction resp c s).outcome = s.outcome := rfl
@[simp] theorem closeTransaction_err (resp : Response) (c : Classified) (s : State) : (closeTransaction resp c s).err = s.err := rfl
@[simp] theorem closeTransaction_rdata (resp : Response) (c : Classified) (s : State) : (closeTransaction resp c s).rdata = s.rdata := rfl
@[simp] theorem closeTransaction_crc (resp : Response) (c : Classified) (s : State) : (closeTransaction resp c s).crc = c.crcOut := rfl
@[simp] theorem closeTransaction_txlog (resp : Response) (c : Classified) (s : State) : (closeTransaction resp c s).txlog = s.txlog := rfl
@[simp] theorem closeTransaction_rxlog (resp : Response) (c : Classified) (s : State) : (closeTransaction resp c s).rxlog = s.rxlog ++ [resp] := rfl
@[simp] theorem closeTransaction_hostFault (resp : Response) (c : Classified) (s : State) : (closeTransaction resp c s).hostFault = s.hostFault := rfl
@[simp] theorem closeTransaction_reads (resp : Response) (c : Classified) (s : State) : (closeTransaction resp c s).reads = s.reads := rfl
@[simp] theorem closeTransaction_draws (resp : Response) (c : Classified) (s : State) : (closeTransaction resp c s).draws = s.draws := rfl
@[simp] theorem closeTransaction_hostActs (resp : Response) (c : Classified) (s : State) : (closeTransaction resp c s).hostActs = s.hostActs := rfl
@[simp] theorem closeTransaction_bridge (resp : Response) (c : Classified) (s : State) : (closeTransaction resp c s).bridge = s.bridge := rfl
@[simp] theorem closeTransaction_turns (resp : Response) (c : Classified) (s : State) : (closeTransaction resp c s).turns = s.turns := rfl
@[simp] theorem closeTransaction_params (resp : Response) (c : Classified) (s : State) : (closeTransaction resp c s).params = s.params := rfl

/-! ### assertReset -/

@[simp] theorem assertReset_phase (s : State) : (assertReset s).phase = .idle := rfl
@[simp] theorem assertReset_pecEn (s : State) : (assertReset s).pecEn = s.params.pecEnAtReset := rfl
@[simp] theorem assertReset_offline (s : State) : (assertReset s).offline = false := rfl
@[simp] theorem assertReset_rvalid (s : State) : (assertReset s).rvalid = false := rfl
@[simp] theorem assertReset_araNone (s : State) : (assertReset s).araNone = false := rfl
@[simp] theorem assertReset_ovr (s : State) : (assertReset s).ovr = false := rfl
@[simp] theorem assertReset_outcome (s : State) : (assertReset s).outcome = .none := rfl
@[simp] theorem assertReset_err (s : State) : (assertReset s).err = 0x00 := rfl
@[simp] theorem assertReset_rdata (s : State) : (assertReset s).rdata = Config.rdataAtReset := rfl
@[simp] theorem assertReset_crc (s : State) : (assertReset s).crc = s.params.crcInit := rfl
@[simp] theorem assertReset_txlog (s : State) : (assertReset s).txlog = s.txlog := rfl
@[simp] theorem assertReset_rxlog (s : State) : (assertReset s).rxlog = s.rxlog := rfl
@[simp] theorem assertReset_hostFault (s : State) : (assertReset s).hostFault = s.hostFault := rfl
@[simp] theorem assertReset_reads (s : State) : (assertReset s).reads = s.reads := rfl
@[simp] theorem assertReset_draws (s : State) : (assertReset s).draws = s.draws := rfl
@[simp] theorem assertReset_hostActs (s : State) : (assertReset s).hostActs = s.hostActs := rfl
@[simp] theorem assertReset_bridge (s : State) : (assertReset s).bridge = s.bridge := rfl
@[simp] theorem assertReset_turns (s : State) : (assertReset s).turns = s.turns := rfl
@[simp] theorem assertReset_params (s : State) : (assertReset s).params = s.params := rfl

/-! ### readRegister -/

@[simp] theorem readRegister_phase (index : Byte) (s : State) : (readRegister index s).phase = s.phase := rfl
@[simp] theorem readRegister_pecEn (index : Byte) (s : State) : (readRegister index s).pecEn = s.pecEn := rfl
@[simp] theorem readRegister_offline (index : Byte) (s : State) : (readRegister index s).offline = s.offline := rfl
@[simp] theorem readRegister_rvalid (index : Byte) (s : State) : (readRegister index s).rvalid = s.rvalid := rfl
@[simp] theorem readRegister_araNone (index : Byte) (s : State) : (readRegister index s).araNone = s.araNone := rfl
@[simp] theorem readRegister_ovr (index : Byte) (s : State) : (readRegister index s).ovr = s.ovr := rfl
@[simp] theorem readRegister_outcome (index : Byte) (s : State) : (readRegister index s).outcome = s.outcome := rfl
@[simp] theorem readRegister_err (index : Byte) (s : State) : (readRegister index s).err = s.err := rfl
@[simp] theorem readRegister_rdata (index : Byte) (s : State) : (readRegister index s).rdata = s.rdata := rfl
@[simp] theorem readRegister_crc (index : Byte) (s : State) : (readRegister index s).crc = s.crc := rfl
@[simp] theorem readRegister_txlog (index : Byte) (s : State) : (readRegister index s).txlog = s.txlog := rfl
@[simp] theorem readRegister_rxlog (index : Byte) (s : State) : (readRegister index s).rxlog = s.rxlog := rfl
@[simp] theorem readRegister_hostFault (index : Byte) (s : State) : (readRegister index s).hostFault = s.hostFault := rfl
@[simp] theorem readRegister_reads (index : Byte) (s : State) : (readRegister index s).reads = s.reads ++ [(index, readPort index s)] := rfl
@[simp] theorem readRegister_draws (index : Byte) (s : State) : (readRegister index s).draws = s.draws + if drawsValue index s then 1 else 0 := rfl
@[simp] theorem readRegister_hostActs (index : Byte) (s : State) : (readRegister index s).hostActs = s.hostActs := rfl
@[simp] theorem readRegister_bridge (index : Byte) (s : State) : (readRegister index s).bridge = s.bridge := rfl
@[simp] theorem readRegister_turns (index : Byte) (s : State) : (readRegister index s).turns = s.turns := rfl
@[simp] theorem readRegister_params (index : Byte) (s : State) : (readRegister index s).params = s.params := rfl

/-! ### offerCommand -/

@[simp] theorem offerCommand_phase (w : CmdWord) (s : State) : (offerCommand w s).phase = s.phase := rfl
@[simp] theorem offerCommand_pecEn (w : CmdWord) (s : State) : (offerCommand w s).pecEn = s.pecEn := rfl
@[simp] theorem offerCommand_offline (w : CmdWord) (s : State) : (offerCommand w s).offline = s.offline := rfl
@[simp] theorem offerCommand_rvalid (w : CmdWord) (s : State) : (offerCommand w s).rvalid = s.rvalid := rfl
@[simp] theorem offerCommand_araNone (w : CmdWord) (s : State) : (offerCommand w s).araNone = s.araNone := rfl
@[simp] theorem offerCommand_ovr (w : CmdWord) (s : State) : (offerCommand w s).ovr = s.ovr := rfl
@[simp] theorem offerCommand_outcome (w : CmdWord) (s : State) : (offerCommand w s).outcome = s.outcome := rfl
@[simp] theorem offerCommand_err (w : CmdWord) (s : State) : (offerCommand w s).err = s.err := rfl
@[simp] theorem offerCommand_rdata (w : CmdWord) (s : State) : (offerCommand w s).rdata = s.rdata := rfl
@[simp] theorem offerCommand_crc (w : CmdWord) (s : State) : (offerCommand w s).crc = s.crc := rfl
@[simp] theorem offerCommand_txlog (w : CmdWord) (s : State) : (offerCommand w s).txlog = s.txlog := rfl
@[simp] theorem offerCommand_rxlog (w : CmdWord) (s : State) : (offerCommand w s).rxlog = s.rxlog := rfl
@[simp] theorem offerCommand_hostFault (w : CmdWord) (s : State) : (offerCommand w s).hostFault = s.hostFault := rfl
@[simp] theorem offerCommand_reads (w : CmdWord) (s : State) : (offerCommand w s).reads = s.reads := rfl
@[simp] theorem offerCommand_draws (w : CmdWord) (s : State) : (offerCommand w s).draws = s.draws := rfl
@[simp] theorem offerCommand_hostActs (w : CmdWord) (s : State) : (offerCommand w s).hostActs = .command w :: s.hostActs := rfl
@[simp] theorem offerCommand_bridge (w : CmdWord) (s : State) : (offerCommand w s).bridge = s.bridge := rfl
@[simp] theorem offerCommand_turns (w : CmdWord) (s : State) : (offerCommand w s).turns = .host :: s.turns := rfl
@[simp] theorem offerCommand_params (w : CmdWord) (s : State) : (offerCommand w s).params = s.params := rfl

/-! ### popTurn -/

@[simp] theorem State.popTurn_phase (s : State) : s.popTurn.phase = s.phase := rfl
@[simp] theorem State.popTurn_pecEn (s : State) : s.popTurn.pecEn = s.pecEn := rfl
@[simp] theorem State.popTurn_offline (s : State) : s.popTurn.offline = s.offline := rfl
@[simp] theorem State.popTurn_rvalid (s : State) : s.popTurn.rvalid = s.rvalid := rfl
@[simp] theorem State.popTurn_araNone (s : State) : s.popTurn.araNone = s.araNone := rfl
@[simp] theorem State.popTurn_ovr (s : State) : s.popTurn.ovr = s.ovr := rfl
@[simp] theorem State.popTurn_outcome (s : State) : s.popTurn.outcome = s.outcome := rfl
@[simp] theorem State.popTurn_err (s : State) : s.popTurn.err = s.err := rfl
@[simp] theorem State.popTurn_rdata (s : State) : s.popTurn.rdata = s.rdata := rfl
@[simp] theorem State.popTurn_crc (s : State) : s.popTurn.crc = s.crc := rfl
@[simp] theorem State.popTurn_txlog (s : State) : s.popTurn.txlog = s.txlog := rfl
@[simp] theorem State.popTurn_rxlog (s : State) : s.popTurn.rxlog = s.rxlog := rfl
@[simp] theorem State.popTurn_hostFault (s : State) : s.popTurn.hostFault = s.hostFault := rfl
@[simp] theorem State.popTurn_reads (s : State) : s.popTurn.reads = s.reads := rfl
@[simp] theorem State.popTurn_draws (s : State) : s.popTurn.draws = s.draws := rfl
@[simp] theorem State.popTurn_hostActs (s : State) : s.popTurn.hostActs = s.hostActs := rfl
@[simp] theorem State.popTurn_bridge (s : State) : s.popTurn.bridge = s.bridge := rfl
@[simp] theorem State.popTurn_turns (s : State) : s.popTurn.turns = s.turns.tail := rfl
@[simp] theorem State.popTurn_params (s : State) : s.popTurn.params = s.params := rfl

/-! ### popAct -/

@[simp] theorem State.popAct_phase (s : State) : s.popAct.phase = s.phase := rfl
@[simp] theorem State.popAct_pecEn (s : State) : s.popAct.pecEn = s.pecEn := rfl
@[simp] theorem State.popAct_offline (s : State) : s.popAct.offline = s.offline := rfl
@[simp] theorem State.popAct_rvalid (s : State) : s.popAct.rvalid = s.rvalid := rfl
@[simp] theorem State.popAct_araNone (s : State) : s.popAct.araNone = s.araNone := rfl
@[simp] theorem State.popAct_ovr (s : State) : s.popAct.ovr = s.ovr := rfl
@[simp] theorem State.popAct_outcome (s : State) : s.popAct.outcome = s.outcome := rfl
@[simp] theorem State.popAct_err (s : State) : s.popAct.err = s.err := rfl
@[simp] theorem State.popAct_rdata (s : State) : s.popAct.rdata = s.rdata := rfl
@[simp] theorem State.popAct_crc (s : State) : s.popAct.crc = s.crc := rfl
@[simp] theorem State.popAct_txlog (s : State) : s.popAct.txlog = s.txlog := rfl
@[simp] theorem State.popAct_rxlog (s : State) : s.popAct.rxlog = s.rxlog := rfl
@[simp] theorem State.popAct_hostFault (s : State) : s.popAct.hostFault = s.hostFault := rfl
@[simp] theorem State.popAct_reads (s : State) : s.popAct.reads = s.reads := rfl
@[simp] theorem State.popAct_draws (s : State) : s.popAct.draws = s.draws := rfl
@[simp] theorem State.popAct_hostActs (s : State) : s.popAct.hostActs = s.hostActs.tail := rfl
@[simp] theorem State.popAct_bridge (s : State) : s.popAct.bridge = s.bridge := rfl
@[simp] theorem State.popAct_turns (s : State) : s.popAct.turns = s.turns.tail := rfl
@[simp] theorem State.popAct_params (s : State) : s.popAct.params = s.params := rfl

/-! ### popResponse -/

@[simp] theorem State.popResponse_phase (s : State) : s.popResponse.phase = s.phase := rfl
@[simp] theorem State.popResponse_pecEn (s : State) : s.popResponse.pecEn = s.pecEn := rfl
@[simp] theorem State.popResponse_offline (s : State) : s.popResponse.offline = s.offline := rfl
@[simp] theorem State.popResponse_rvalid (s : State) : s.popResponse.rvalid = s.rvalid := rfl
@[simp] theorem State.popResponse_araNone (s : State) : s.popResponse.araNone = s.araNone := rfl
@[simp] theorem State.popResponse_ovr (s : State) : s.popResponse.ovr = s.ovr := rfl
@[simp] theorem State.popResponse_outcome (s : State) : s.popResponse.outcome = s.outcome := rfl
@[simp] theorem State.popResponse_err (s : State) : s.popResponse.err = s.err := rfl
@[simp] theorem State.popResponse_rdata (s : State) : s.popResponse.rdata = s.rdata := rfl
@[simp] theorem State.popResponse_crc (s : State) : s.popResponse.crc = s.crc := rfl
@[simp] theorem State.popResponse_txlog (s : State) : s.popResponse.txlog = s.txlog := rfl
@[simp] theorem State.popResponse_rxlog (s : State) : s.popResponse.rxlog = s.rxlog := rfl
@[simp] theorem State.popResponse_hostFault (s : State) : s.popResponse.hostFault = s.hostFault := rfl
@[simp] theorem State.popResponse_reads (s : State) : s.popResponse.reads = s.reads := rfl
@[simp] theorem State.popResponse_draws (s : State) : s.popResponse.draws = s.draws := rfl
@[simp] theorem State.popResponse_hostActs (s : State) : s.popResponse.hostActs = s.hostActs := rfl
@[simp] theorem State.popResponse_bridge (s : State) : s.popResponse.bridge = s.bridge.tail := rfl
@[simp] theorem State.popResponse_turns (s : State) : s.popResponse.turns = s.turns.tail := rfl
@[simp] theorem State.popResponse_params (s : State) : s.popResponse.params = s.params := rfl

end Sys2Proof.Machine
end

