-- ==== Sys2Proof/Laws/Ops.lean ====
section
/-! SUPPORT. One lemma for each shared operation that says all it can do, and the inversion of a step; proofs cite these
and do not unfold the operations. -/

namespace Sys2Proof.Machine

/-! ### Phase, BUSY and TXN -/

theorem busy_eq_false_iff (s : State) : s.busy = false ↔ s.phase = .idle := by
  unfold State.busy; cases s.phase <;> simp

theorem busy_eq_true_iff (s : State) : s.busy = true ↔ ∃ t, s.txn = some t := by
  unfold State.busy State.txn; cases s.phase <;> simp

theorem txn_eq_some_iff (s : State) (t : Txn) :
    s.txn = some t ↔ s.phase = .framed t ∨ s.phase = .awaitingResponse t := by
  unfold State.txn; cases s.phase <;> simp

/-! ### Acceptance -/

theorem accept_idle (body : State → State) {s : State} (h : s.phase = .idle) :
    accept body s = .next (body s) := by
  simp [accept, (busy_eq_false_iff s).2 h]

theorem accept_busy (body : State → State) {s : State} (h : s.busy = true) :
    accept body s = .next (dropWord s) := by
  simp [accept, h]

/-- Acceptance always answers, and drops the word exactly while BUSY = 1. -/
theorem accept_cases {body : State → State} {s s' : State} (h : accept body s = .next s') :
    (s.busy = true ∧ s' = dropWord s) ∨ (s.phase = .idle ∧ s' = body s) := by
  unfold accept at h
  injection h with h
  cases hb : s.busy <;> simp [hb] at h
  · exact .inr ⟨(busy_eq_false_iff s).1 hb, h.symm⟩
  · exact .inl ⟨rfl, h.symm⟩

/-! ### Bus commands -/

theorem busCommand_offline (op : BusOp) (a7 : Addr7) (cmd : Byte) (d16 : Half) {s : State}
    (h : s.offline = true) : busCommand op a7 cmd d16 s = offlineRefusal s := by
  simp [busCommand, h]

theorem busCommand_online (op : BusOp) (a7 : Addr7) (cmd : Byte) (d16 : Half) {s : State}
    (h : s.offline = false) : busCommand op a7 cmd d16 s = issue op a7 cmd d16 s := by
  simp [busCommand, h]

/-- Transmission changes PHASE and TXLOG, and only in FRAMED. -/
theorem transmit_cases (s : State) :
    (∃ t, s.phase = .framed t ∧
      transmit s = { s with phase := .awaitingResponse t, txlog := s.txlog ++ [t.line] }) ∨
    ((∀ t, s.phase ≠ .framed t) ∧ transmit s = s) := by
  unfold transmit
  cases h : s.phase with
  | idle => exact .inr ⟨by simp, rfl⟩
  | framed t => exact .inl ⟨t, rfl, rfl⟩
  | awaitingResponse t => exact .inr ⟨by simp, rfl⟩

/-! ### The response -/

/-- Applying a result writes OUTCOME with its ERR flag, RVALID, ARA_NONE and RDATA, and nothing else. -/
theorem applyResult_cases (op : BusOp) (res : Result) (data : List Byte) (s : State) :
    ∃ o rv an rd, applyResult op res data s =
        { s with outcome := o, err := errFlag o, rvalid := rv, araNone := an, rdata := rd } ∧
      o ≠ .none ∧ o ≠ .illegal ∧ ¬(rv = true ∧ an = true) ∧
      (rv = true → o = .complete ∧ res = .complete ∧ readValue op data = some rd) ∧
      (rv = false → rd = s.rdata) ∧ (an = true ↔ res = .noResponder) := by
  cases res <;> simp only [applyResult]
  case complete =>
    cases h : readValue op data with
    | some v => exact ⟨.complete, true, false, v, rfl, by simp⟩
    | none => exact ⟨.complete, false, false, s.rdata, rfl, by simp⟩
  case noResponder => exact ⟨.complete, false, true, s.rdata, rfl, by simp⟩
  case notAcked => exact ⟨.notAcked, false, false, s.rdata, rfl, by simp⟩
  case bridgeOffline => exact ⟨.bridgeOffline, false, false, s.rdata, rfl, by simp⟩
  case pecMismatch => exact ⟨.pecMismatch, false, false, s.rdata, rfl, by simp⟩
  case desync => exact ⟨.desync, false, false, s.rdata, rfl, by simp⟩
  case timeout => exact ⟨.timeout, false, false, s.rdata, rfl, by simp⟩

theorem respond_awaiting (resp : Response) {s : State} {t : Txn} (h : s.phase = .awaitingResponse t) :
    respond resp s = applyResult t.op (classify s.params t resp).res (classify s.params t resp).data
      (closeTransaction resp (classify s.params t resp) s) := by
  simp [respond, h]

/-- All that a response step can do in AWAITING_RESPONSE. -/
theorem respond_cases (resp : Response) {s : State} {t : Txn} (h : s.phase = .awaitingResponse t) :
    ∃ o rv an rd, respond resp s =
        { s with
          phase := .idle, rxlog := s.rxlog ++ [resp], crc := (classify s.params t resp).crcOut
          offline := s.offline || (classify s.params t resp).offlineSeen
          outcome := o, err := errFlag o, rvalid := rv, araNone := an, rdata := rd } ∧
      o ≠ .none ∧ o ≠ .illegal ∧ ¬(rv = true ∧ an = true) ∧
      (rv = true → o = .complete ∧ (classify s.params t resp).res = .complete ∧
        readValue t.op (classify s.params t resp).data = some rd) ∧
      (rv = false → rd = s.rdata) ∧ (an = true ↔ (classify s.params t resp).res = .noResponder) := by
  rw [respond_awaiting resp h]
  obtain ⟨o, rv, an, rd, e, facts⟩ := applyResult_cases t.op (classify s.params t resp).res
    (classify s.params t resp).data (closeTransaction resp (classify s.params t resp) s)
  exact ⟨o, rv, an, rd, by rw [e]; rfl, facts⟩

/-! ### Commands and steps -/

/-- Every command goes through acceptance. -/
theorem exec_eq_accept (i : Instr) (s : State) : exec i s =
    accept (fun s => match i with
      | .nop => report .complete s
      | .setmode mode => report .complete { s with pecEn := mode }
      | .crcclr => report .complete { s with crc := s.params.crcInit }
      | .crcbyte d8 => report .complete { s with crc := crc8Step s.crc d8 }
      | .rdw a7 cmd => busCommand .rdw a7 cmd 0 s
      | .wrw a7 cmd d16 => busCommand .wrw a7 cmd d16 s
      | .rdb a7 cmd => busCommand .rdb a7 cmd 0 s
      | .wrb a7 cmd d8 => busCommand .wrb a7 cmd (d8.setWidth 16) s
      | .rcv a7 => busCommand .rcv a7 0 0 s
      | .snd a7 d8 => busCommand .snd a7 0 (d8.setWidth 16) s
      | .ara => busCommand .ara 0 0 0 s) s := by
  cases i <;> rfl

/-- What a command word can do to the state. -/
inductive CommandEffect (w : CmdWord) (s : State) : State → Prop where
  | dropped (h : s.busy = true) : CommandEffect w s (dropWord s)
  | illegal (h : s.phase = .idle) (why : IllegalWord) (d : decode w = .illegal why) :
      CommandEffect w s (report .illegal s)
  | nop (h : s.phase = .idle) (d : decode w = .command .nop) : CommandEffect w s (report .complete s)
  | setmode (h : s.phase = .idle) (mode : Bool) (d : decode w = .command (.setmode mode)) :
      CommandEffect w s (report .complete { s with pecEn := mode })
  | crcclr (h : s.phase = .idle) (d : decode w = .command .crcclr) :
      CommandEffect w s (report .complete { s with crc := s.params.crcInit })
  | crcbyte (h : s.phase = .idle) (d8 : Byte) (d : decode w = .command (.crcbyte d8)) :
      CommandEffect w s (report .complete { s with crc := crc8Step s.crc d8 })
  | refused (h : s.phase = .idle) (i : Instr) (d : decode w = .command i) (b : i.isBus = true)
      (off : s.offline = true) : CommandEffect w s (offlineRefusal s)
  | issued (h : s.phase = .idle) (i : Instr) (d : decode w = .command i) (on : s.offline = false)
      (op : BusOp) (a7 : Addr7) (cmd : Byte) (d16 : Half) (b : i.busParts = some (op, a7, cmd, d16)) :
      CommandEffect w s (issue op a7 cmd d16 s)

theorem commandEffect_of_bus {w : CmdWord} {s : State} (h : s.phase = .idle) {i : Instr}
    (d : decode w = .command i) (op : BusOp) (a7 : Addr7) (cmd : Byte) (d16 : Half)
    (b : i.busParts = some (op, a7, cmd, d16)) : CommandEffect w s (busCommand op a7 cmd d16 s) := by
  cases off : s.offline with
  | true => rw [busCommand_offline op a7 cmd d16 off]; exact .refused h i d (by simp [Instr.isBus, b]) off
  | false => rw [busCommand_online op a7 cmd d16 off]; exact .issued h i d off op a7 cmd d16 b

/-- The command port answers every word in every state, with one of these effects. -/
theorem commandPort_cases (w : CmdWord) (s : State) :
    ∃ s', commandPort w s = .next s' ∧ CommandEffect w s s' := by
  unfold commandPort
  cases hb : s.busy with
  | true =>
    cases decode w with
    | command i => exact ⟨_, by simp only [exec_eq_accept, accept_busy _ hb], .dropped hb⟩
    | illegal why => exact ⟨_, by simp only [accept_busy _ hb], .dropped hb⟩
  | false =>
    have h := (busy_eq_false_iff s).1 hb
    cases d : decode w with
    | illegal why => exact ⟨_, by simp only [accept_idle _ h]; rfl, .illegal h why d⟩
    | command i =>
      refine ⟨_, (exec_eq_accept i s).trans (accept_idle _ h), ?_⟩
      cases i with
      | nop => exact .nop h d
      | setmode mode => exact .setmode h mode d
      | crcclr => exact .crcclr h d
      | crcbyte d8 => exact .crcbyte h d8 d
      | rdw a7 cmd => exact commandEffect_of_bus h d _ _ _ _ rfl
      | wrw a7 cmd d16 => exact commandEffect_of_bus h d _ _ _ _ rfl
      | rdb a7 cmd => exact commandEffect_of_bus h d _ _ _ _ rfl
      | wrb a7 cmd d8 => exact commandEffect_of_bus h d _ _ _ _ rfl
      | rcv a7 => exact commandEffect_of_bus h d _ _ _ _ rfl
      | snd a7 d8 => exact commandEffect_of_bus h d _ _ _ _ rfl
      | ara => exact commandEffect_of_bus h d _ _ _ _ rfl

/-- What one step can do. -/
inductive StepEffect (s : State) : State → Prop where
  | waits : StepEffect s s.popTurn
  | command (w : CmdWord) (rest : List HostAct) (ha : s.hostActs = .command w :: rest)
      (now : s.actNow = some (.command w)) (s' : State)
      (e : CommandEffect w s.popAct s') : StepEffect s s'
  | reads (index : Byte) (rest : List HostAct) (ha : s.hostActs = .readRegister index :: rest)
      (now : s.actNow = some (.readRegister index)) :
      StepEffect s (readRegister index s.popAct)
  | reset (rest : List HostAct) (ha : s.hostActs = .reset :: rest) (now : s.resetsNow) :
      StepEffect s (assertReset s.popAct)
  | transmits (t : Txn) (ph : s.phase = .framed t) (mv : s.mover = .block) :
      StepEffect s { s.popTurn with phase := .awaitingResponse t, txlog := s.txlog ++ [t.line] }
  | responds (t : Txn) (ph : s.phase = .awaitingResponse t) (mv : s.mover = .bridge) (resp : Response)
      (rest : List Response) (hb : s.bridge = resp :: rest) :
      StepEffect s (respond resp s.popResponse)

/-- Nobody awaits a response, or the channel has none: the bridge's move changes nothing. -/
theorem bridgeMove_waits (s : State) (h : (∀ t, s.phase ≠ .awaitingResponse t) ∨ s.bridge = []) :
    bridgeMove s = s := by
  unfold bridgeMove
  split
  · rename_i ph hb; rcases h with h | h
    · exact absurd ph (h _)
    · rw [h] at hb; cases hb
  all_goals rfl

theorem bridgeMove_responds {s : State} {t : Txn} {resp : Response} {rest : List Response}
    (ph : s.phase = .awaitingResponse t) (hb : s.bridge = resp :: rest) :
    bridgeMove s = respond resp { s with bridge := rest } := by
  unfold bridgeMove
  split
  · rename_i e; rw [hb] at e; injection e with e1 e2; rw [e1, e2]
  all_goals simp_all

theorem agentStep_eq_move (s : State) : agentStep s = move s.mover s.popTurn := by
  unfold agentStep State.mover State.popTurn
  cases h : s.turns with
  | nil =>
    have : ({ s with turns := [] } : State) = s := by rw [← h]
    simp only [List.tail_nil, this]
  | cons a rest => rfl

theorem hostMove_popTurn {s : State} {a : HostAct} {rest : List HostAct} (h : s.hostActs = a :: rest) :
    hostMove s.popTurn = hostAct a s.popAct := by
  simp [hostMove, State.popTurn, State.popAct, h]

theorem hostMove_cases (s : State) (mv : s.mover = .host) :
    ∃ s', hostMove s.popTurn = .next s' ∧ StepEffect s s' := by
  have act : s.actNow = s.hostActs.head? := by simp [State.actNow, mv]
  cases h : s.hostActs with
  | nil => exact ⟨s.popTurn, by simp [hostMove, State.popTurn, h], .waits⟩
  | cons a rest =>
    rw [h] at act
    rw [hostMove_popTurn h]
    cases a with
    | command w =>
      obtain ⟨s', e, c⟩ := commandPort_cases w s.popAct
      exact ⟨s', e, .command w rest h act s' c⟩
    | readRegister index => exact ⟨_, rfl, .reads index rest h act⟩
    | reset => exact ⟨_, rfl, .reset rest h act⟩

/-- A step always answers a next state, by one of these effects. -/
theorem step_effect (s : State) : ∃ s', step s = .next s' ∧ StepEffect s s' := by
  unfold step
  rw [agentStep_eq_move]
  cases mv : s.mover with
  | host => exact hostMove_cases s mv
  | block =>
    refine ⟨_, rfl, ?_⟩
    rcases transmit_cases s.popTurn with ⟨t, ph, e⟩ | ⟨-, e⟩
    · rw [e]; exact .transmits t ph mv
    · rw [e]; exact .waits
  | bridge =>
    refine ⟨_, rfl, ?_⟩
    cases ph : s.phase with
    | idle => rw [bridgeMove_waits _ (.inl (by simp [State.popTurn, ph]))]; exact .waits
    | framed t => rw [bridgeMove_waits _ (.inl (by simp [State.popTurn, ph]))]; exact .waits
    | awaitingResponse t =>
      cases hb : s.bridge with
      | nil => rw [bridgeMove_waits s.popTurn (.inr hb)]; exact .waits
      | cons resp rest =>
        have e : ({ s.popTurn with bridge := rest } : State) = s.popResponse := by
          simp [State.popTurn, State.popResponse, hb]
        rw [bridgeMove_responds (s := s.popTurn) ph hb, e]
        exact .responds t ph mv resp rest hb

/-- The inversion of a step. -/
theorem step_cases {s s' : State} (h : step s = .next s') : StepEffect s s' := by
  obtain ⟨t, e, c⟩ := step_effect s
  rw [e] at h
  injection h with h
  exact h ▸ c

end Sys2Proof.Machine
end

