-- ==== Sys2Proof/Laws/PerInstr.lean ====
section
/-! SUPPORT. The family OpcodeField: the word of every command carries its opcode in bits 39:32 and has R = 0
(30_encoding.md R71, R73, R74). -/

namespace Sys2Proof.Laws.OpcodeField

def Statement (i : Instr) : Prop := opcOf (encode i) = i.opc ∧ rOf (encode i) = false

theorem packWord_opc (opc : Byte) (a7 : Addr7) (cmd : Byte) (d : Half) : opcOf (packWord opc a7 cmd d) = opc := by
  unfold opcOf packWord
  ext j hj
  simp
  interval_cases j <;> simp

theorem packWord_r (opc : Byte) (a7 : Addr7) (cmd : Byte) (d : Half) : rOf (packWord opc a7 cmd d) = false := by
  simp [rOf, packWord]

theorem nop : Statement .nop := ⟨packWord_opc .., packWord_r ..⟩
theorem setmode (mode : Bool) : Statement (.setmode mode) := ⟨packWord_opc .., packWord_r ..⟩
theorem crcclr : Statement .crcclr := ⟨packWord_opc .., packWord_r ..⟩
theorem crcbyte (d8 : Byte) : Statement (.crcbyte d8) := ⟨packWord_opc .., packWord_r ..⟩
theorem rdw (a7 : Addr7) (cmd : Byte) : Statement (.rdw a7 cmd) := ⟨packWord_opc .., packWord_r ..⟩
theorem wrw (a7 : Addr7) (cmd : Byte) (d16 : Half) : Statement (.wrw a7 cmd d16) := ⟨packWord_opc .., packWord_r ..⟩
theorem rdb (a7 : Addr7) (cmd : Byte) : Statement (.rdb a7 cmd) := ⟨packWord_opc .., packWord_r ..⟩
theorem wrb (a7 : Addr7) (cmd : Byte) (d8 : Byte) : Statement (.wrb a7 cmd d8) := ⟨packWord_opc .., packWord_r ..⟩
theorem rcv (a7 : Addr7) : Statement (.rcv a7) := ⟨packWord_opc .., packWord_r ..⟩
theorem snd (a7 : Addr7) (d8 : Byte) : Statement (.snd a7 d8) := ⟨packWord_opc .., packWord_r ..⟩
theorem ara : Statement .ara := ⟨packWord_opc .., packWord_r ..⟩

end Sys2Proof.Laws.OpcodeField
end

