-- ==== Sys2Proof/Tests/Slice0.lean ====
section
/-! SUPPORT. Small tests: words written out from spec/30_encoding.md, vectors of spec/95_test_vectors.md, the well-formedness
checks, and a witness for every statement that has hypotheses. The tokens and sentinels are illustrative (R8 leaves them
open); expected values come from the spec's files. -/

open Sys2Proof Sys2Proof.Machine

set_option maxRecDepth 4000

namespace Sys2Proof.Tests

/-! ### A small machine -/

/-- The TokenMap of 95_test_vectors.md section 4, with sentinels `N` and `O` and request tokens of our own. -/
def tokens : TokenMap := ⟨['s'], ['r'], ['p'], [], ['q'], ['l'], ['\n'], 'N', 'O'⟩

/-- The default parameters of R8 with those tokens. -/
def params : Params := ⟨tokens, 0x0C, 0x00, .both, false⟩

/-- The block after reset, in checked mode or not. -/
def bench (pec : Bool) : State := { startState params [] [] [] with pecEn := pec }

/-- The block with the bridge offline. -/
def benchOffline : State := { bench false with offline := true }

/-- A captured transaction at the example address 0x09, or ARA. -/
def txn (op : BusOp) (cmd : Byte) (d16 : Half) (pec : Bool) : Txn :=
  match op with
  | .ara => capture params .ara 0 0 0 pec
  | _ => capture params op 0x09 cmd d16 pec

/-- The block in FRAMED, and waiting for a response. -/
def framed (t : Txn) : State := { bench t.pec with phase := .framed t, crc := crc8 0x00 t.cb }
def awaiting (t : Txn) : State := { bench t.pec with phase := .awaitingResponse t, crc := crc8 0x00 t.cb, txlog := [t.line] }

/-- What a step result shows: STATUS, ERR and CRC of the next state. -/
def shows (r : StepResult) : Option (Half × Byte × Byte) :=
  match r with
  | .next t => some (statusWord t, t.err, t.crc)
  | .fault _ => none
  | .refused _ => none

/-- The same for the response step, with RDATA if it is valid. -/
def answers (t : Txn) (resp : Response) : Half × Byte × Byte × Option Half :=
  let s := respond resp (awaiting t)
  (statusWord s, s.err, s.crc, if s.rvalid then some s.rdata else none)

/-- The line of the transaction just issued. -/
def issuedLine (r : StepResult) : Option Text :=
  match r with
  | .next t => t.txn.map (·.line)
  | .fault _ => none
  | .refused _ => none

/-! ### Decoding: words written out field by field (30_encoding.md R71, R74) -/

theorem test_decode_nop : decode 0b00000000_0_0000000_00000000_0000000000000000 = .command .nop := by decide
theorem test_decode_setmode : decode 0b00000001_0_0000000_00000000_0000000000000001 = .command (.setmode true) := by decide
theorem test_decode_crcclr : decode 0b00000010_0_0000000_00000000_0000000000000000 = .command .crcclr := by decide
theorem test_decode_crcbyte : decode 0b00000011_0_0000000_00000000_0000000010100101 = .command (.crcbyte 0xA5) := by decide
theorem test_decode_rdw : decode 0b00010000_0_1000001_11000010_0000000000000000 = .command (.rdw 0x41 0xC2) := by decide
theorem test_decode_wrw : decode 0b00010001_0_1000001_11000010_1001000000110100 = .command (.wrw 0x41 0xC2 0x9034) := by decide
theorem test_decode_rdb : decode 0b00010010_0_1000001_11000010_0000000000000000 = .command (.rdb 0x41 0xC2) := by decide
theorem test_decode_wrb : decode 0b00010011_0_1000001_11000010_0000000010110100 = .command (.wrb 0x41 0xC2 0xB4) := by decide
theorem test_decode_rcv : decode 0b00010100_0_1000001_00000000_0000000000000000 = .command (.rcv 0x41) := by decide
theorem test_decode_snd : decode 0b00010101_0_1000001_00000000_0000000010110100 = .command (.snd 0x41 0xB4) := by decide
theorem test_decode_ara : decode 0b00010110_0_0000000_00000000_0000000000000000 = .command .ara := by decide

/-- LC10 to LC17: illegal words. -/
theorem test_decode_illegal :
    decode 0x0100000002 = .illegal .mustBeZero ∧ decode 0x0400000000 = .illegal .reservedOpcode ∧
    decode 0xFFFFFFFFFF = .illegal .reservedOpcode ∧ decode 0x1609000000 = .illegal .mustBeZero ∧
    decode 0x1089020000 = .illegal .mustBeZero ∧ decode 0x1309200100 = .illegal .mustBeZero ∧
    decode 0x1409010000 = .illegal .mustBeZero ∧ decode 0x0300010012 = .illegal .mustBeZero := by decide

theorem test_table_word :
    decodeTableWord 40 0x150900005A = some (.snd 0x09 0x5A) ∧ decodeTableWord 40 0x1700000000 = none := by decide

/-! ### Well-formedness: one ill-formed line for each check of R77 -/

theorem test_illformed_lines :
    (AsmLine.setmode 2).wf = false ∧ (AsmLine.crcbyte 0x100).wf = false ∧
    (AsmLine.rdw 0x80 0).wf = false ∧ (AsmLine.rdw 0 0x100).wf = false ∧
    (AsmLine.wrw 0x80 0 0).wf = false ∧ (AsmLine.wrw 0 0x100 0).wf = false ∧ (AsmLine.wrw 0 0 0x10000).wf = false ∧
    (AsmLine.rdb 0x80 0).wf = false ∧ (AsmLine.rdb 0 0x100).wf = false ∧
    (AsmLine.wrb 0x80 0 0).wf = false ∧ (AsmLine.wrb 0 0x100 0).wf = false ∧ (AsmLine.wrb 0 0 0x100).wf = false ∧
    (AsmLine.rcv 0x80).wf = false ∧ (AsmLine.snd 0x80 0).wf = false ∧ (AsmLine.snd 0 0x100).wf = false ∧
    (AsmLine.crc 0x100 []).wf = false ∧ (AsmLine.crc 0 [0, 0x100]).wf = false := by decide

theorem test_wellformed_lines :
    (AsmLine.wrw 0x7F 0xFF 0xFFFF).wf = true ∧ (AsmLine.setmode 1).wf = true ∧ (AsmLine.crc 0xFF [0xFF]).wf = true := by
  decide

theorem test_illformed_tokens :
    ({ tokens with nackCh := 'f' } : TokenMap).wf = false ∧ ({ tokens with offlineCh := '0' } : TokenMap).wf = false ∧
    ({ tokens with offlineCh := 'N' } : TokenMap).wf = false ∧ ({ tokens with tokEol := [] } : TokenMap).wf = false ∧
    tokens.wf = true := by decide

/-- 30_encoding.md R77, R78; the words of program P1 of 95_test_vectors.md. -/
theorem test_assemble :
    (assemble ['c', 'r', 'c', ' ', '0', 'x', '1', '2', ',', ' ', '5', '2', ' ', ';', 'x']).toOption =
      some [0x0200000000, 0x0300000012, 0x0300000034] ∧
    (assemble ['R', 'C', 'V', ' ', '1', '2', '8']).toOption = none := by decide

/-! ### The checksum (95_test_vectors.md section 2) -/

theorem test_crc_vectors :
    crc8 0x00 [0x12, 0x34] = 0xF1 ∧ crc8 0x00 [0x80] = 0x89 ∧ crc8 0x00 [0xFF, 0xFF] = 0x24 := by decide

/-! ### Local commands (section 3) -/

theorem test_nop_LC1 : shows (exec .nop (bench false)) = some (0x0100, 0x00, 0x00) := by decide
theorem test_setmode_LC2 : shows (exec (.setmode true) (bench false)) = some (0x0108, 0x00, 0x00) := by decide
theorem test_setmode_LC3 : shows (exec (.setmode false) (bench true)) = some (0x0100, 0x00, 0x00) := by decide
theorem test_crcclr_LC4 : shows (exec .crcclr { bench false with crc := 0x5A }) = some (0x0100, 0x00, 0x00) := by decide
theorem test_crcbyte_LC6 : shows (exec (.crcbyte 0x34) { bench false with crc := 0x7E }) = some (0x0100, 0x00, 0xF1) := by decide
theorem test_crcbyte_P3 : shows (exec (.crcbyte 0x07) { benchOffline with crc := 0x32 }) = some (0x0110, 0x00, 0x8B) := by decide
theorem test_illegal_LC19 : shows (commandPort 0x0400000000 benchOffline) = some (0x0710, 0x20, 0x00) := by decide
theorem test_dropped_LC20 :
    shows (commandPort 0x0400000000 (framed (txn .rdw 0x02 0 false))) = some (0x0083, 0x00, 0x27) := by decide

/-! ### Issue (section 4): STATUS, ERR, CRC and the line -/

theorem test_rdw_FR1 : shows (exec (.rdw 0x09 0x02) (bench true)) = some (0x000B, 0x00, 0x27) ∧
    issuedLine (exec (.rdw 0x09 0x02) (bench true)) =
      some ['s', '1', '2', '0', '2', 'r', '1', '3', 'q', 'q', 'l', 'p', '\n'] := by decide
theorem test_rdw_FR2b : shows (exec (.rdw 0x09 0x02) { bench true with params := { params with pecReadCoverage := .writeAddrOnly } }) =
    some (0x000B, 0x00, 0x73) := by decide
theorem test_wrw_FR3 : issuedLine (exec (.wrw 0x09 0x01 0x1234) (bench true)) =
    some ['s', '1', '2', '0', '1', '3', '4', '1', '2', 'F', '3', 'p', '\n'] := by decide
theorem test_wrw_FR5 : shows (exec (.wrw 0x09 0x01 0x0000) (bench true)) = some (0x000B, 0x00, 0x20) := by decide
theorem test_rdb_FR6 : shows (exec (.rdb 0x09 0x03) (bench false)) = some (0x0003, 0x00, 0x32) ∧
    issuedLine (exec (.rdb 0x09 0x03) (bench false)) = some ['s', '1', '2', '0', '3', 'r', '1', '3', 'l', 'p', '\n'] := by decide
theorem test_wrb_FR8 : issuedLine (exec (.wrb 0x09 0x20 0xA5) (bench true)) =
    some ['s', '1', '2', '2', '0', 'A', '5', 'A', '8', 'p', '\n'] := by decide
theorem test_rcv_FR10 : shows (exec (.rcv 0x09) (bench true)) = some (0x000B, 0x00, 0x79) ∧
    issuedLine (exec (.rcv 0x09) (bench true)) = some ['s', '1', '3', 'q', 'l', 'p', '\n'] := by decide
theorem test_snd_FR13 : issuedLine (exec (.snd 0x09 0x5A) (bench false)) = some ['s', '1', '2', '5', 'A', 'p', '\n'] := by decide
theorem test_ara_FR14 : shows (exec .ara (bench false)) = some (0x0003, 0x00, 0x4F) ∧
    issuedLine (exec .ara (bench false)) = some ['s', '1', '9', 'l', 'p', '\n'] := by decide
theorem test_offline_FR18 : shows (exec (.rdw 0x09 0x02) { benchOffline with crc := 0x32 }) = some (0x0310, 0x02, 0x32) := by decide

/-! ### Response (section 5) -/

theorem test_respond_DR1 : answers (txn .rdw 0x02 0 true) (some ['C', 'D', 'A', 'B', '9', '9']) =
    (0x0128, 0x00, 0x99, some 0xABCD) := by decide
theorem test_respond_DR2 : answers (txn .rdw 0x02 0 true) (some ['c', 'd', 'a', 'b', '9', '9']) =
    (0x0128, 0x00, 0x99, some 0xABCD) := by decide
theorem test_respond_DR9 : answers (txn .rdw 0x02 0 true) (some ['C', 'D', 'A', 'B', '9', '9', 'N']) =
    (0x0208, 0x01, 0x99, none) := by decide
theorem test_respond_DR11 : answers (txn .rdw 0x02 0 true) (some ['C', 'D', 'A', 'B', '9', '8', 'O']) =
    (0x0418, 0x04, 0x99, none) := by decide
theorem test_respond_DR13 : answers (txn .rdw 0x02 0 true) (some ['N', 'O']) = (0x0318, 0x02, 0x27, none) := by decide
theorem test_respond_DR18 : answers (txn .rdw 0x02 0 true) none = (0x0608, 0x10, 0x27, none) := by decide
theorem test_respond_DR24 : answers (txn .rdw 0x02 0 false) (some ['C', 'D', 'A', 'B', '9', '9']) =
    (0x0500, 0x08, 0x99, none) := by decide
theorem test_respond_DR27 : answers (txn .rdw 0x02 0 false) (some ['C', 'D', 'x', 'B']) = (0x0500, 0x08, 0x27, none) := by decide
theorem test_respond_WR1 : answers (txn .wrw 0x01 0x1234 true) (some []) = (0x0108, 0x00, 0xF3, none) := by decide
theorem test_respond_WR6 : answers (txn .wrw 0x01 0x1234 false) (some ['0', '0']) = (0x0500, 0x08, 0xF3, none) := by decide
theorem test_respond_AR4 : answers (txn .ara 0 0 false) (some ['F', 'F']) = (0x0120, 0x00, 0x19, some 0x007F) := by decide
theorem test_respond_AR6 : answers (txn .ara 0 0 false) (some ['1', '3', 'N']) = (0x0140, 0x00, 0x93, none) := by decide
theorem test_respond_RB1 : answers (txn .rcv 0 0 true) (some ['4', '2', 'A', '1']) = (0x0128, 0x00, 0xA1, some 0x0042) := by decide
theorem test_respond_RB6 : answers (txn .rdb 0x03 0 true) (some ['7', 'E', 'E', '3']) = (0x0128, 0x00, 0xE3, some 0x007E) := by decide

/-- KV7 and R21: the register port. -/
theorem test_readPort : readPort 0x05 (bench true) = 0x0000 ∧ readPort 0xFF (bench true) = 0x0000 ∧
    readPort 0x04 (bench true) = 0x0001 ∧ readPort 0x00 (bench true) = 0x0008 := by decide

/-- The host's question: the step after reset runs the word offered. -/
theorem test_first_step : shows (step (State.reset.withFetchWord 40 0x0300000012)) = some (0x0100, 0x00, 0x7E) := by decide

/-! ### Witnesses: states and operands that meet the hypotheses of the statements -/

theorem witness_LegalWordIsTheEncodingOfItsCommand : decode 0x1009020000 = .command (.rdw 0x09 0x02) := by decide

theorem witness_IllegalIsReservedOpcodeOrMustBeZero :
    decode 0x0400000000 = .illegal .reservedOpcode ∧ decode 0x0F00000000 = .illegal .reservedOpcode ∧
    decode 0x1700000000 = .illegal .reservedOpcode ∧ decode 0xFF00000000 = .illegal .reservedOpcode ∧
    decode 0x1080000000 = .illegal .mustBeZero ∧ (bench false).phase = .idle := by decide

theorem witness_PseudoInstructionsExpand : 0xFF ≤ 0xFF ∧ ∀ b ∈ [0x00, 0xFF], b ≤ 0xFF := by decide

theorem witness_AssemblerEncodesOrRefuses : (AsmLine.wrw 0x7F 0xFF 0x10000).wf = false := by decide

theorem witness_StepRunsTheDecodedCommand :
    decodeTableWord 40 0x1600000000 = some .ara ∧ decode 0x1600000000 = .command .ara ∧
    (startState params [.command 0x1600000000] [] [.host]).turns = .host :: [] ∧
    (startState params [.command 0x1600000000] [] []).hostActs = .command 0x1600000000 :: [] ∧
    (startState params [.command 0x1600000000] [] []).turns = [] ∧
    (startState params [.command 0x1600000000] [] []).phase = .idle := by decide

theorem witness_AcceptancePriority :
    (framed (txn .rdw 0x02 0 false)).busy = true ∧ (awaiting (txn .rdw 0x02 0 false)).busy = true ∧
    (bench false).busy = false ∧ decode 0x0400000000 = .illegal .reservedOpcode ∧
    benchOffline.busy = false ∧ benchOffline.offline = true ∧ decode 0x1600000000 = .command .ara ∧
    Instr.ara.isBus = true ∧ (bench false).offline = false ∧ Instr.nop.isBus = false := by decide

theorem witness_BusyWordIsDroppedAndRecorded :
    (awaiting (txn .ara 0 0 true)).phase ≠ .idle ∧
    (∃ s', step { bench false with ovr := true, hostFault := true } = .next s' ∧ s'.ovr = true) ∧
    (∃ s', step { bench false with ovr := true, hostFault := true, hostActs := [.reset] } = .next s' ∧
      s'.ovr = false ∧ s'.hostFault = true) :=
  ⟨by decide, ⟨_, rfl, rfl⟩, ⟨_, rfl, rfl, rfl⟩⟩

theorem witness_local_commands :
    (bench false).phase = .idle ∧ benchOffline.phase = .idle ∧ (bench false).crc = (bench false).params.crcInit ∧
    (0x0000000001 : CmdWord).extractLsb' 32 8 = 0x00 ∧ (0x0000000001 : CmdWord) ≠ 0 ∧
    (0x0280000000 : CmdWord).extractLsb' 32 8 = 0x02 ∧ (0x0280000000 : CmdWord).extractLsb' 0 32 ≠ 0 ∧
    (0x03000000FF : CmdWord).extractLsb' 32 8 = 0x03 ∧ (0x03000000FF : CmdWord).extractLsb' 8 24 = 0 ∧
    (0x0300000100 : CmdWord).extractLsb' 8 24 ≠ 0 ∧
    (0x0100000001 : CmdWord).extractLsb' 32 8 = 0x01 ∧ (0x0100000001 : CmdWord).extractLsb' 1 31 = 0 ∧
    (0x0100000002 : CmdWord).extractLsb' 1 31 ≠ 0 ∧ (framed (txn .ara 0 0 true)).phase ≠ .idle ∧
    Instr.ara.isBus = true ∧ (bench false).offline = false := by decide

theorem witness_LocalCommandsFrame :
    (∃ s', exec .nop (bench true) = .next s') ∧ (∃ s', exec .crcclr (framed (txn .ara 0 0 true)) = .next s') ∧
    Instr.nop.isBus = false ∧ Instr.crcclr.isBus = false := ⟨⟨_, rfl⟩, ⟨_, rfl⟩, rfl, rfl⟩

theorem witness_CrcSeesEveryChangeOfOneByte : (0x12 : Byte) ≠ 0x13 ∧ 7 < 8 ∧ 0 < 8 := by decide

theorem witness_bus_commands_are_issued :
    (bench true).phase = .idle ∧ (bench true).offline = false ∧
    (bench true).params.pecReadCoverage = .both ∧
    ({ bench true with params := { params with pecReadCoverage := .writeAddrOnly } } : State).params.pecReadCoverage ≠ .both := by
  decide

theorem witness_OfflineRefusesBusCommands :
    Instr.ara.isBus = true ∧ benchOffline.phase = .idle ∧ benchOffline.offline = true := by decide

theorem witness_BusCommandsFrame :
    (∃ s', exec .ara (bench true) = .next s') ∧ (∃ s', exec .ara benchOffline = .next s') ∧
    (∃ s', exec .ara (awaiting (txn .ara 0 0 true)) = .next s') ∧ (awaiting (txn .ara 0 0 true)).phase ≠ .idle :=
  ⟨⟨_, rfl⟩, ⟨_, rfl⟩, ⟨_, rfl⟩, by decide⟩

theorem witness_kinds_of_operation : BusOp.rdw.isWrite = false ∧ BusOp.wrw.isWrite = true := by decide

theorem witness_TransmitEmitsTheLine :
    (framed (txn .snd 0 0x5A true)).phase = .framed (txn .snd 0 0x5A true) ∧
    (framed (txn .snd 0 0x5A true)).turns = [] ∧
    ({ framed (txn .snd 0 0x5A true) with turns := [.block] } : State).turns = .block :: [] := by decide

/-- One response for each row of R180. -/
theorem witness_ResultsAreApplied :
    (awaiting (txn .rdw 0x02 0 true)).phase = .awaitingResponse (txn .rdw 0x02 0 true) ∧
    classify params (txn .rdw 0x02 0 false) (some ['C', 'D', 'A', 'B']) = ⟨.complete, [0xCD, 0xAB], false, 0x99⟩ ∧
    classify params (txn .rdb 0x03 0 false) (some ['7', 'E']) = ⟨.complete, [0x7E], false, 0xE3⟩ ∧
    classify params (txn .rcv 0 0 false) (some ['4', '2']) = ⟨.complete, [0x42], false, 0xA1⟩ ∧
    classify params (txn .ara 0 0 false) (some ['1', '3']) = ⟨.complete, [0x13], false, 0x93⟩ ∧
    classify params (txn .wrw 0x01 0x1234 true) (some []) = ⟨.complete, [], false, 0xF3⟩ ∧
    classify params (txn .ara 0 0 true) (some ['N']) = ⟨.noResponder, [], false, 0x4F⟩ ∧
    classify params (txn .rdw 0x02 0 true) (some ['N']) = ⟨.notAcked, [], false, 0x27⟩ ∧
    classify params (txn .rdw 0x02 0 true) (some ['O']) = ⟨.bridgeOffline, [], true, 0x27⟩ ∧
    classify params (txn .ara 0 0 true) (some ['1', '3', '9', '4']) = ⟨.pecMismatch, [0x13], false, 0x93⟩ ∧
    classify params (txn .rdw 0x02 0 false) (some ['C', 'D', 'x', 'B']) = ⟨.desync, [], false, 0x27⟩ ∧
    classify params (txn .rdw 0x02 0 false) (some ['C', 'D']) = ⟨.timeout, [], false, 0x27⟩ := by decide

theorem witness_ExpectedRegion :
    regionFull (txn .rdw 0x02 0 true) ['C', 'D'] = false ∧
    regionFull (txn .rdw 0x02 0 true) ['C', 'D', 'A', 'B', '9', '9'] = true ∧
    (txn .rdw 0x02 0 true).n ≤ (txn .rdw 0x02 0 true).m ∧ (txn .snd 0 0x5A true).m = 0 := by decide

theorem witness_CompleteExactlyForAFaithfulResponse :
    params.tokens.wf = true ∧ txn .rdw 0x02 0 true = capture params .rdw 0x09 0x02 0 true := by decide

theorem witness_NackReturnsNoValue :
    tokens.wf = true ∧ (awaiting (txn .ara 0 0 true)).phase = .awaitingResponse (txn .ara 0 0 true) ∧
    'N' ∈ ['N'] ∧ 'O' ∉ ['N'] ∧ 'N' ∈ ['N'].take (2 * (txn .ara 0 0 true).m) ∧ (txn .rdw 0x02 0 false).pec = false ∧
    (txn .rdw 0x02 0 false).op ≠ .ara ∧ (txn .ara 0 0 true).op = .ara := by decide

theorem witness_WriteResponses :
    BusOp.wrw.isWrite = true ∧ txn .wrw 0x01 0x1234 true = capture (awaiting (txn .wrw 0x01 0x1234 true)).params .wrw 0x09 0x01 0x1234 true ∧
    (awaiting (txn .wrw 0x01 0x1234 true)).phase = .awaitingResponse (txn .wrw 0x01 0x1234 true) := by decide

theorem witness_CrcAfterTheResponse :
    regionFull (txn .rdb 0x03 0 true) ['7', 'E', 'E', '3'] = true ∧ regionFull (txn .rdb 0x03 0 true) ['N'] = false ∧
    (respond (some ['7', 'E', 'E', '3']) (awaiting (txn .rdb 0x03 0 true))).outcome = .complete ∧
    (respond (some ['7', 'E', 'E', '3']) (awaiting (txn .rdb 0x03 0 true))).araNone = false ∧
    (txn .rdb 0x03 0 true).pec = true ∧ 0 < (txn .rdb 0x03 0 true).n ∧
    (respond (some ['7', 'E', 'E', '4']) (awaiting (txn .rdb 0x03 0 true))).outcome = .pecMismatch ∧
    (txn .snd 0 0x5A true).n = 0 := by decide

theorem witness_OfflineLatch :
    'O' ∉ ['7', 'E'] ∧ (∃ s', step benchOffline = .next s' ∧ s'.offline = true) ∧
    (∃ s', step { benchOffline with hostActs := [.reset] } = .next s' ∧ s'.offline = false) :=
  ⟨by decide, ⟨_, rfl, rfl⟩, ⟨_, rfl, rfl⟩⟩

/-- PhaseTransitions and NoRetry: a step from each phase that leaves it. -/
theorem witness_steps_between_phases :
    (∃ s', step (startState params [.command 0x1600000000] [] []) = .next s' ∧ s'.phase = .framed (txn .ara 0 0 false)) ∧
    (∃ s', step (framed (txn .ara 0 0 false)) = .next s' ∧ s'.phase = .awaitingResponse (txn .ara 0 0 false)) ∧
    (∃ s', step { awaiting (txn .ara 0 0 false) with bridge := [none] } = .next s' ∧ s'.phase = .idle ∧ s'.rxlog = [none]) :=
  ⟨⟨_, rfl, by decide⟩, ⟨_, rfl, by decide⟩, ⟨_, rfl, by decide, by decide⟩⟩

theorem witness_OnlySetmodeWritesConfig :
    (∃ s', step (startState params [.command 0x0100000001] [] []) = .next s' ∧ s'.pecEn = true) ∧
    (∃ s', step { bench true with hostActs := [.reset] } = .next s' ∧ s'.pecEn = false) :=
  ⟨⟨_, rfl, by decide⟩, ⟨_, rfl, rfl⟩⟩

theorem witness_reachable_busy : ∃ s, Reachable s ∧ s.busy = true ∧ s.txn = some (txn .ara 0 0 false) :=
  ⟨_, .next (.start params [.command 0x1600000000] [] [] (by decide)) rfl, by decide, by decide⟩

theorem witness_RdataChangesOnlyWithAValue :
    (∃ s', step { awaiting (txn .rdb 0x03 0 false) with bridge := [some ['7', 'E']] } = .next s' ∧
      s'.rdata ≠ (awaiting (txn .rdb 0x03 0 false)).rdata) ∧
    (∃ s', step { bench false with rdata := 5, hostActs := [.reset] } = .next s' ∧ s'.rdata ≠ 5) :=
  ⟨⟨_, rfl, by decide⟩, ⟨_, rfl, by decide⟩⟩

theorem witness_DeadRdataIsNeverObserved :
    SameButDeadRdata (bench false) { bench false with rdata := 5 } ∧
    (bench false).rdata ≠ ({ bench false with rdata := 5 } : State).rdata ∧ (∃ s', step (bench false) = .next s') :=
  ⟨⟨rfl, rfl⟩, by decide, ⟨_, rfl⟩⟩

theorem witness_RegisterPortMap : ({ bench false with rvalid := true } : State).rvalid = true ∧
    0x05 ≤ (0x05 : Byte).toNat ∧ 0x05 ≤ (0xFF : Byte).toNat := by decide

theorem bench_inv (pec : Bool) : (bench pec).Inv := by
  constructor <;> simp [bench, startState, State.txn, State.busy, errFlag, State.reset]
  decide

theorem witness_EveryStepKeepsTheInvariant : (bench true).Inv ∧ ∃ s', step (bench true) = .next s' :=
  ⟨bench_inv true, _, rfl⟩

theorem witness_TransactionEndsWithItsResponse :
    (framed (txn .ara 0 0 false)).phase = .framed (txn .ara 0 0 false) ∧
    (awaiting (txn .ara 0 0 false)).phase = .awaitingResponse (txn .ara 0 0 false) ∧
    ({ framed (txn .ara 0 0 false) with bridge := [none] } : State).bridge = none :: [] ∧
    ({ framed (txn .ara 0 0 false) with bridge := [none] } : State).turns = [] ∧
    (awaiting (txn .ara 0 0 false)).turns = [] ∧ (awaiting (txn .ara 0 0 false)).bridge = [] := by decide

/-- One state that meets the hypotheses of the statement named after it: the word, and the answer of
95_test_vectors.md, DR, for a checked RDW. -/
def checkedReadBench : State :=
  { bench true with hostActs := [.command 0x1009020000], bridge := [some ['C', 'D', 'A', 'B', '9', '9']] }

theorem witness_CheckedReadWordEndToEnd :
    checkedReadBench.params.tokens.wf = true ∧ checkedReadBench.phase = .idle ∧ checkedReadBench.offline = false ∧
    checkedReadBench.pecEn = true ∧ checkedReadBench.turns = [] ∧
    [0x12, 0x02, 0x13] = (if checkedReadBench.params.pecReadCoverage = .both
      then [(0x09 : Addr7) ++ 0#1, 0x02, (0x09 : Addr7) ++ 1#1] else [(0x09 : Addr7) ++ 0#1, 0x02]) ∧
    checkedReadBench.hostActs = .command (encode (.rdw 0x09 0x02)) :: [] ∧
    checkedReadBench.bridge = some (hex2 0xCD ++ hex2 0xAB ++
      hex2 (crc8 checkedReadBench.params.crcInit ([0x12, 0x02, 0x13] ++ [0xCD, 0xAB]))) :: [] := by
  decide

theorem witness_CheckedReadWordRejectsAWrongPec :
    txn .rdw 0x02 0 true = capture (awaiting (txn .rdw 0x02 0 true)).params .rdw 0x09 0x02 0 true ∧
    (0x98 : Byte) ≠ crc8 0x00 ((txn .rdw 0x02 0 true).cb ++ [0xCD, 0xAB]) := by decide

/-- One state that meets the hypotheses of the statement named after it. -/
def writeBench (pec : Bool) : State :=
  { bench pec with hostActs := [.command 0x1109011234], bridge := [some []] }

theorem witness_WriteWordEndToEnd : ∀ pec : Bool,
    (writeBench pec).phase = .idle ∧ (writeBench pec).offline = false ∧ (writeBench pec).turns = [] ∧
    0xF3 = crc8 (writeBench pec).params.crcInit [(0x09 : Addr7) ++ 0#1, 0x01, 0x34, 0x12] ∧
    (writeBench pec).hostActs = .command (encode (.wrw 0x09 0x01 ((0x12 : Byte) ++ (0x34 : Byte)))) :: [] ∧
    (writeBench pec).bridge = some [] :: [] := by decide

end Sys2Proof.Tests
end

/-! # Registers and latches (10_state.md)

What commands, responses and steps do to OFFLINE, CONFIG, OUTCOME and ERR, and to the mode of a transaction. -/

namespace Sys2Proof.Machine

/-! ### TXN read off PHASE -/

theorem txn_eq_none_of_idle {s : State} (h : s.phase = .idle) : s.txn = none := by
  simp [State.txn, h]

/-! ### A response, field by field -/

section Response

variable (resp : Response) {s : State} {t : Txn}

theorem respond_phase (h : s.phase = .awaitingResponse t) : (respond resp s).phase = .idle := by
  obtain ⟨o, rv, an, rd, e, -⟩ := respond_cases resp h
  rw [e]

theorem respond_pecEn (h : s.phase = .awaitingResponse t) : (respond resp s).pecEn = s.pecEn := by
  obtain ⟨o, rv, an, rd, e, -⟩ := respond_cases resp h
  rw [e]

theorem respond_err (h : s.phase = .awaitingResponse t) :
    (respond resp s).err = errFlag (respond resp s).outcome := by
  obtain ⟨o, rv, an, rd, e, -⟩ := respond_cases resp h
  rw [e]

theorem respond_offline (h : s.phase = .awaitingResponse t) :
    (respond resp s).offline = (s.offline || (classify s.params t resp).offlineSeen) := by
  obtain ⟨o, rv, an, rd, e, -⟩ := respond_cases resp h
  rw [e]

end Response

/-- `offlineSeen` is the sight of OFFLINE_CH on every path of the classification, also where the PEC mismatch is tested
first (R172, R174). -/
theorem classifyText_offlineSeen (p : Params) (t : Txn) (r : Text) :
    (classifyText p t r).offlineSeen = sawOffline p r := by
  unfold classifyText
  dsimp only
  split
  · rfl
  · cases seen : sawOffline p r with
    | true => rfl
    | false => rw [if_neg Bool.false_ne_true]; split_ifs <;> rfl

theorem sawOffline_eq_true_iff (p : Params) (r : Text) :
    sawOffline p r = true ↔ p.tokens.offlineCh ∈ r := by
  simp [sawOffline]

theorem respond_some_offline (r : Text) {s : State} {t : Txn} (h : s.phase = .awaitingResponse t) :
    (respond (some r) s).offline = (s.offline || sawOffline s.params r) := by
  rw [respond_offline _ h, classify, classifyText_offlineSeen]

theorem respond_none_offline {s : State} {t : Txn} (h : s.phase = .awaitingResponse t) :
    (respond none s).offline = s.offline := by
  rw [respond_offline _ h, classify, Bool.or_false]

/-! ### A bus command, accepted -/

theorem exec_busParts {i : Instr} {op : BusOp} {a7 : Addr7} {cmd : Byte} {d16 : Half} {s : State}
    (b : i.busParts = some (op, a7, cmd, d16)) (h : s.phase = .idle) :
    exec i s = .next (busCommand op a7 cmd d16 s) := by
  rw [exec_eq_accept, accept_idle _ h]
  cases i <;> cases b <;> rfl

theorem exec_bus_offline {i : Instr} {s : State} (b : i.isBus = true) (h : s.phase = .idle)
    (off : s.offline = true) : exec i s = .next (offlineRefusal s) := by
  obtain ⟨⟨op, a7, cmd, d16⟩, parts⟩ := Option.isSome_iff_exists.1 b
  rw [exec_busParts parts h, busCommand_offline op a7 cmd d16 off]

/-! ### A command word, field by field -/

section CommandEffect

variable {w : CmdWord} {s s' : State}

theorem CommandEffect.offline_eq (e : CommandEffect w s s') : s'.offline = s.offline := by
  cases e <;> rfl

/-- A command word that changes PEC_EN is an accepted SETMODE (R22). -/
theorem CommandEffect.pecEn_cases (e : CommandEffect w s s') :
    s'.pecEn = s.pecEn ∨
      ∃ mode, decode w = .command (.setmode mode) ∧ s.phase = .idle ∧ s'.pecEn = mode := by
  cases e
  case setmode h mode d => exact .inr ⟨mode, d, h, rfl⟩
  all_goals exact .inl rfl

/-- A dropped word leaves OUTCOME and ERR alone; every other word reports an outcome, and ERR with it (R25). -/
theorem CommandEffect.outcome_err_cases (e : CommandEffect w s s') :
    (s'.outcome = s.outcome ∧ s'.err = s.err) ∨ s'.err = errFlag s'.outcome := by
  cases e
  case dropped => exact .inl ⟨rfl, rfl⟩
  all_goals exact .inr rfl

end CommandEffect

/-! ### A step, field by field -/

section Step

variable {s s' : State}

/-- Only reset clears OFFLINE (R31). -/
theorem step_offline_sticky (h : step s = .next s') (off : s.offline = true) :
    s'.offline = true ∨ s.resetsNow := by
  cases step_cases h with
  | waits => exact .inl off
  | command w rest ha now s' e => exact .inl (e.offline_eq.trans off)
  | reads index rest ha now => exact .inl off
  | reset rest ha now => exact .inr now
  | transmits t ph mv => exact .inl off
  | responds t ph mv resp rest hb =>
    left
    rw [respond_offline resp (s := s.popResponse) ph, State.popResponse_offline, off, Bool.true_or]

/-- Only SETMODE and reset write CONFIG (R22). -/
theorem step_pecEn_cases (h : step s = .next s') :
    s'.pecEn = s.pecEn ∨
    (∃ w mode, s.actNow = some (.command w) ∧ decode w = .command (.setmode mode) ∧ s.phase = .idle ∧
      s'.pecEn = mode) ∨
    (s.resetsNow ∧ s'.pecEn = s.params.pecEnAtReset) := by
  cases step_cases h with
  | waits => exact .inl rfl
  | command w rest ha now s' e =>
    rcases e.pecEn_cases with kept | ⟨mode, d, idle, set⟩
    · exact .inl kept
    · exact .inr (.inl ⟨w, mode, now, d, idle, set⟩)
  | reads index rest ha now => exact .inl rfl
  | reset rest ha now => exact .inr (.inr ⟨now, rfl⟩)
  | transmits t ph mv => exact .inl rfl
  | responds t ph mv resp rest hb => exact .inl (respond_pecEn resp (s := s.popResponse) ph)

/-- OUTCOME and ERR are both kept, or written together (R25). -/
theorem step_outcome_err_cases (h : step s = .next s') :
    (s'.outcome = s.outcome ∧ s'.err = s.err) ∨ s'.err = errFlag s'.outcome := by
  cases step_cases h with
  | waits => exact .inl ⟨rfl, rfl⟩
  | command w rest ha now s' e => exact e.outcome_err_cases
  | reads index rest ha now => exact .inl ⟨rfl, rfl⟩
  | reset rest ha now => exact .inr rfl
  | transmits t ph mv => exact .inl ⟨rfl, rfl⟩
  | responds t ph mv resp rest hb => exact .inr (respond_err resp (s := s.popResponse) ph)

end Step

/-! ### Invariants of runs -/

/-- What holds of every start state and is kept by every step holds of every reachable state. -/
theorem Reachable.of_invariant {P : State → Prop}
    (start : ∀ (p : Params) (acts : List HostAct) (bridge : List Response) (turns : List Agent),
      p.tokens.wf = true → P (startState p acts bridge turns))
    (kept : ∀ {s s' : State}, P s → step s = .next s' → P s') {s : State} (r : Reachable s) : P s := by
  induction r with
  | start p acts bridge turns h => exact start p acts bridge turns h
  | next _ h ih => exact kept ih h

/-- The transaction outstanding, if there is one, has the mode that CONFIG holds (R22). -/
def ModeHeld (s : State) : Prop := ∀ t, s.txn = some t → t.pec = s.pecEn

theorem modeHeld_of_idle {s : State} (h : s.phase = .idle) : ModeHeld s := by
  intro t ht
  rw [txn_eq_none_of_idle h] at ht
  cases ht

theorem ModeHeld.of_kept {s s' : State} (hm : ModeHeld s) (txn : s'.txn = s.txn)
    (pecEn : s'.pecEn = s.pecEn) : ModeHeld s' := by
  intro t ht
  rw [pecEn]
  exact hm t (txn ▸ ht)

theorem issue_modeHeld (op : BusOp) (a7 : Addr7) (cmd : Byte) (d16 : Half) (s : State) :
    ModeHeld (issue op a7 cmd d16 s) := by
  rintro t ⟨⟩
  rfl

/-- A word is accepted in IDLE only, so it never changes PEC_EN under a transaction; the issue captures PEC_EN. -/
theorem ModeHeld.of_commandEffect {w : CmdWord} {s s' : State} (hm : ModeHeld s)
    (e : CommandEffect w s s') : ModeHeld s' := by
  cases e with
  | dropped _ => exact hm.of_kept rfl rfl
  | illegal h _ _ => exact modeHeld_of_idle h
  | nop h _ => exact modeHeld_of_idle h
  | setmode h _ _ => exact modeHeld_of_idle h
  | crcclr h _ => exact modeHeld_of_idle h
  | crcbyte h _ _ => exact modeHeld_of_idle h
  | refused h _ _ _ _ => exact modeHeld_of_idle h
  | issued h i d on op a7 cmd d16 b => exact issue_modeHeld op a7 cmd d16 s

theorem ModeHeld.of_step {s s' : State} (hm : ModeHeld s) (h : step s = .next s') : ModeHeld s' := by
  cases step_cases h with
  | waits => exact hm.of_kept rfl rfl
  | command w rest ha now s' e => exact (hm.of_kept rfl rfl : ModeHeld s.popAct).of_commandEffect e
  | reads index rest ha now => exact hm.of_kept rfl rfl
  | reset rest ha now => exact modeHeld_of_idle rfl
  | transmits t ph mv =>
    have txn : s.txn = some t := (txn_eq_some_iff s t).2 (.inl ph)
    exact hm.of_kept txn.symm rfl
  | responds t ph mv resp rest hb => exact modeHeld_of_idle (respond_phase resp (s := s.popResponse) ph)

theorem Reachable.modeHeld {s : State} (r : Reachable s) : ModeHeld s :=
  Reachable.of_invariant (fun _ _ _ _ _ => modeHeld_of_idle rfl) ModeHeld.of_step r

theorem Reachable.err_eq {s : State} (r : Reachable s) : s.err = errFlag s.outcome := by
  refine Reachable.of_invariant (P := fun s => s.err = errFlag s.outcome) (fun _ _ _ _ _ => rfl) ?_ r
  intro s s' ih h
  rcases step_outcome_err_cases h with ⟨ho, he⟩ | written
  · rw [he, ho, ih]
  · exact written

theorem configWord_eq_append (s : State) : configWord s = 0#7 ++ BitVec.ofBool s.pecEn := by
  unfold configWord
  cases s.pecEn <;> rfl

/-! ### The obligations -/

/-- Settles O42: a response ORs the sight of OFFLINE_CH into the latch, and no other step but reset writes it. -/
theorem offlineLatch : Obligations.OfflineLatch := by
  unfold Obligations.OfflineLatch
  refine ⟨?set, ?kept, fun s s' => step_offline_sticky, ?refuses⟩
  case set =>
    intro s t before after ph
    have seen := (sawOffline_eq_true_iff s.params (before ++ s.params.tokens.offlineCh :: after)).2 (by simp)
    rw [respond_some_offline _ ph, seen, Bool.or_true]
  case kept =>
    intro s t r ph absent
    have unseen : sawOffline s.params r = false :=
      Bool.eq_false_iff.2 (mt (sawOffline_eq_true_iff s.params r).1 absent)
    rw [respond_some_offline r ph, unseen, Bool.or_false]
    exact ⟨rfl, respond_none_offline ph⟩
  case refuses =>
    intro i s bus idle off
    exact ⟨offlineRefusal s, exec_bus_offline bus idle off, rfl, idle, rfl⟩

/-- Settles O45: the writers of PEC_EN over every step, and `ModeHeld` along every run. -/
theorem onlySetmodeWritesConfig : Obligations.OnlySetmodeWritesConfig := by
  unfold Obligations.OnlySetmodeWritesConfig
  exact ⟨configWord_eq_append, fun s s' => step_pecEn_cases, fun s t r => r.modeHeld t⟩

/-- Settles O46: the eight flags, the two written together over every step, and their agreement along every run. -/
theorem errIsOneHotOfOutcome : Obligations.ErrIsOneHotOfOutcome := by
  unfold Obligations.ErrIsOneHotOfOutcome
  exact ⟨rfl, rfl, rfl, rfl, rfl, rfl, rfl, rfl, fun s s' => step_outcome_err_cases, fun s => Reachable.err_eq⟩

end Sys2Proof.Machine

/-! # Characters and bytes on the wire (20_memory.md)

The digit class and the hex spelling of bytes (R54), the write address byte (R51), and the byte order of words (R55). -/

namespace Sys2Proof.Machine

/-! ### The class of hex digits -/

/-- The `n` characters whose codes start at `lo`. -/
def charRun (lo n : Nat) : List Char := (List.range' lo n).map Char.ofNat

theorem mem_charRun_iff {c : Char} {lo n : Nat} (h : lo + n ≤ 0xD800) :
    c ∈ charRun lo n ↔ lo ≤ c.toNat ∧ c.toNat < lo + n := by
  rw [charRun, List.mem_map]
  constructor
  · rintro ⟨k, hk, rfl⟩
    have range := List.mem_range'_1.1 hk
    rwa [Char.toNat_ofNat, if_pos (.inl (by omega))]
  · exact fun range => ⟨c.toNat, List.mem_range'_1.2 range, Char.ofNat_toNat c⟩

/-- `0`-`9`, `A`-`F` and `a`-`f`, the three runs of codes that `isHexDigit` tests. -/
def hexDigitChars : List Char := charRun 48 10 ++ charRun 65 6 ++ charRun 97 6

theorem isHexDigit_iff_toNat (c : Char) : isHexDigit c = true ↔
    ((48 ≤ c.toNat ∧ c.toNat ≤ 57) ∨ (65 ≤ c.toNat ∧ c.toNat ≤ 70)) ∨ (97 ≤ c.toNat ∧ c.toNat ≤ 102) := by
  simp [isHexDigit, Char.le_def, UInt32.le_iff_toNat_le]

theorem isHexDigit_iff_mem (c : Char) : isHexDigit c = true ↔ c ∈ hexDigitChars := by
  rw [isHexDigit_iff_toNat, hexDigitChars, List.mem_append, List.mem_append, mem_charRun_iff (by decide),
    mem_charRun_iff (by decide), mem_charRun_iff (by decide)]
  omega

/-! ### Spelling of nibbles and bytes -/

theorem hexDigit_eq_getD (v : BitVec 4) (d : Char) : hexDigit v =
    ['0', '1', '2', '3', '4', '5', '6', '7', '8', '9', 'A', 'B', 'C', 'D', 'E', 'F'].getD v.toNat d := by
  rw [hexDigit, List.getD_eq_getElem _ _ v.isLt, List.getD_eq_getElem _ _ v.isLt]

theorem hexVal_hexDigit (v : BitVec 4) : hexVal (hexDigit v) = v := by
  revert v
  decide

theorem hexVal_lowerDigit (v : BitVec 4) :
    hexVal (['0', '1', '2', '3', '4', '5', '6', '7', '8', '9', 'a', 'b', 'c', 'd', 'e', 'f'].getD v.toNat ' ') = v := by
  revert v
  decide

theorem hex2_append (hi lo : BitVec 4) : hex2 (hi ++ lo) = [hexDigit hi, hexDigit lo] := by
  rw [hex2, BitVec.extractLsb'_append_eq_left, BitVec.extractLsb'_append_eq_right]

/-! ### What a word write sends -/

theorem writeAddr_eq_append (a7 : Addr7) : writeAddr a7 = a7 ++ 0#1 := by
  rw [BitVec.append_def, BitVec.shiftLeftZeroExtend_eq, BitVec.setWidth'_eq, BitVec.setWidth_zero, BitVec.or_zero,
    writeAddr]

theorem covered_wrw (p : Params) (a7 : Addr7) (cmd hi lo : Byte) :
    covered p .wrw a7 cmd (hi ++ lo) = [a7 ++ 0#1, cmd, lo, hi] := by
  rw [covered, writeAddr_eq_append, loByte_append, hiByte_append]

/-- A word write sends its covered bytes first, and after them its PEC alone (R133, R137). -/
theorem sentBytes_symbols_wrw (p : Params) (a7 : Addr7) (cmd : Byte) (d16 : Half) (pec : Bool) :
    sentBytes (symbols p .wrw a7 cmd d16 pec) = covered p .wrw a7 cmd d16 ++
      sentBytes (pecSend p pec (covered p .wrw a7 cmd d16)) := by
  cases pec <;> rfl

theorem readValue_rdw (lo hi : Byte) : readValue .rdw [lo, hi] = some (hi ++ lo) := rfl

/-! ### The obligations -/

/-- Settles O22: the digit class as three runs of codes, the value of each digit in both cases, and the two nibbles of
a byte. -/
theorem hexSpelling : Obligations.HexSpelling := by
  unfold Obligations.HexSpelling
  refine ⟨isHexDigit_iff_mem, fun v => ⟨hexDigit_eq_getD v ' ', ?upper, hexVal_lowerDigit v⟩, hex2_append,
    fun _ _ => rfl⟩
  case upper => rw [← hexDigit_eq_getD, hexVal_hexDigit]

/-- Settles O24: in the word `hi ++ lo` the low byte goes first, in the bytes sent and covered and in the value read. -/
theorem wordsAreLittleEndianOnTheWire : Obligations.WordsAreLittleEndianOnTheWire := by
  unfold Obligations.WordsAreLittleEndianOnTheWire
  intro p a7 cmd hi lo pec
  refine ⟨?sent, covered_wrw p a7 cmd hi lo, readValue_rdw lo hi⟩
  rw [sentBytes_symbols_wrw, covered_wrw]
  rfl

end Sys2Proof.Machine

/-! # Command words (30_encoding.md)

The decoder as the table of masks (R74, R75), the illegal words field by field (R76), and the words that the
pseudo-instructions stand for (R78). -/

namespace Sys2Proof

/-! ### Fields of a word, as masks and as numbers -/

/-- The mask of `len` bits from bit `lo` upwards. -/
def fieldMask (lo len : Nat) : CmdWord := (BitVec.allOnes len).setWidth 40 <<< lo

theorem getLsbD_fieldMask {lo len : Nat} (h : lo + len ≤ 40) (i : Nat) :
    (fieldMask lo len).getLsbD i = decide (lo ≤ i ∧ i < lo + len) := by
  rw [fieldMask, BitVec.getLsbD_shiftLeft, BitVec.getLsbD_setWidth, BitVec.getLsbD_allOnes, Bool.eq_iff_iff]
  simp only [Bool.and_eq_true, Bool.not_eq_true', decide_eq_true_eq, decide_eq_false_iff_not]
  omega

theorem and_fieldMask {lo len : Nat} (h : lo + len ≤ 40) (w : CmdWord) :
    w &&& fieldMask lo len = (w.extractLsb' lo len).setWidth 40 <<< lo := by
  apply BitVec.eq_of_getLsbD_eq
  intro i hi
  rw [BitVec.getLsbD_and, getLsbD_fieldMask h, BitVec.getLsbD_shiftLeft, BitVec.getLsbD_setWidth,
    BitVec.getLsbD_extractLsb']
  by_cases below : i < lo
  · simp [below]
  · have inside : i < lo + len ↔ i - lo < len := by omega
    simp [below, inside, hi, show lo ≤ i by omega, show i - lo < 40 by omega, Bool.and_comm]

theorem toNat_setWidth_shiftLeft {n k : Nat} (x : BitVec n) (h : n + k ≤ 40) :
    (x.setWidth 40 <<< k).toNat = x.toNat <<< k := by
  have lt : x.toNat <<< k < 2 ^ 40 := by
    rw [Nat.shiftLeft_eq]
    calc x.toNat * 2 ^ k < 2 ^ n * 2 ^ k := Nat.mul_lt_mul_of_pos_right x.isLt (Nat.two_pow_pos k)
      _ = 2 ^ (n + k) := (Nat.pow_add 2 n k).symm
      _ ≤ 2 ^ 40 := Nat.pow_le_pow_right (by decide) h
  rw [BitVec.toNat_shiftLeft, BitVec.toNat_setWidth_of_le (by omega), Nat.mod_eq_of_lt lt]

theorem and_fieldMask_eq_zero_iff {lo len : Nat} (h : lo + len ≤ 40) (w : CmdWord) :
    w &&& fieldMask lo len = 0#40 ↔ w.extractLsb' lo len = 0#len := by
  rw [and_fieldMask h, ← BitVec.toNat_inj, ← BitVec.toNat_inj, toNat_setWidth_shiftLeft _ (by omega)]
  simp [Nat.shiftLeft_eq]

theorem extractLsb'_one_eq_zero_iff (w : CmdWord) (i : Nat) : w.extractLsb' i 1 = 0#1 ↔ w.getLsbD i = false := by
  rw [BitVec.eq_of_getLsbD_eq_iff]
  simp

/-- R77's packing as a number: the four fields do not overlap, so the bitwise or is a sum. -/
theorem packWord_toNat (opc : Byte) (a7 : Addr7) (cmd : Byte) (d : Half) :
    (packWord opc a7 cmd d).toNat =
      opc.toNat * 2 ^ 32 + a7.toNat * 2 ^ 24 + cmd.toNat * 2 ^ 16 + d.toNat := by
  have ha := a7.isLt
  have hc := cmd.isLt
  have hd := d.isLt
  rw [packWord, BitVec.toNat_or, BitVec.toNat_or, BitVec.toNat_or, toNat_setWidth_shiftLeft opc (by decide),
    toNat_setWidth_shiftLeft a7 (by decide), toNat_setWidth_shiftLeft cmd (by decide),
    BitVec.toNat_setWidth_of_le (by decide), Nat.or_assoc, Nat.or_assoc,
    ← Nat.shiftLeft_add_eq_or_of_lt hd, ← Nat.shiftLeft_add_eq_or_of_lt (a := a7.toNat),
    ← Nat.shiftLeft_add_eq_or_of_lt (a := opc.toNat)]
  all_goals simp only [Nat.shiftLeft_eq]
  all_goals omega

theorem encode_crcbyte_ofNat {b : Nat} (h : b ≤ 0xFF) :
    encode (.crcbyte (BitVec.ofNat 8 b)) = BitVec.ofNat 40 (0x0300000000 + b) := by
  apply BitVec.eq_of_toNat_eq
  rw [encode, packWord_toNat]
  simp [Instr.opc]
  omega

/-! ### The must-be-zero fields of a row -/

/-- The must-be-zero fields of a row of R74, each as its lowest bit and its width. -/
def Row.zeroFields (r : Row) : List (Nat × Nat) :=
  match (opcOf r.pattern).toNat with
  | 0x01 => [(1, 31)]
  | 0x03 => [(8, 24)]
  | 0x10 => [(31, 1), (0, 16)]
  | 0x11 => [(31, 1)]
  | 0x12 => [(31, 1), (0, 16)]
  | 0x13 => [(31, 1), (8, 8)]
  | 0x14 => [(31, 1), (0, 24)]
  | 0x15 => [(31, 1), (8, 16)]
  | _ => [(0, 32)]

/-- The mask of all bits of some fields. -/
def fieldsMask (fields : List (Nat × Nat)) : CmdWord :=
  fields.foldr (fun f mask => fieldMask f.1 f.2 ||| mask) 0

theorem and_fieldsMask_eq_zero_iff (w : CmdWord) {fields : List (Nat × Nat)} (h : ∀ f ∈ fields, f.1 + f.2 ≤ 40) :
    w &&& fieldsMask fields = 0#40 ↔ ∀ f ∈ fields, w.extractLsb' f.1 f.2 = 0#f.2 := by
  induction fields with
  | nil => simp [fieldsMask]
  | cons f fields ih =>
    obtain ⟨bound, bounds⟩ := List.forall_mem_cons.1 h
    rw [List.forall_mem_cons, ← ih bounds, ← and_fieldMask_eq_zero_iff bound, ← BitVec.or_eq_zero_iff,
      ← BitVec.and_or_distrib_left]
    rfl

/-- A row's mask covers the opcode field and the row's must-be-zero fields; its match is its opcode alone. -/
theorem mask_and_pattern_of_mem_table : ∀ r ∈ table,
    r.mask = fieldMask 32 8 ||| fieldsMask r.zeroFields ∧ r.pattern = (opcOf r.pattern).setWidth 40 <<< 32 := by
  decide

/-- A row's must-be-zero fields lie in the word, within its mask and outside its match. -/
theorem zeroFields_of_mem_table : ∀ r ∈ table, (∀ f ∈ r.zeroFields, f.1 + f.2 ≤ 40) ∧
    r.mask &&& fieldsMask r.zeroFields = fieldsMask r.zeroFields ∧ r.pattern &&& fieldsMask r.zeroFields = 0#40 := by
  decide

/-! ### What the decoder answers, by mask and by field -/

theorem decode_command_iff_mask {w : CmdWord} {i : Instr} :
    decode w = .command i ↔ ∃ r ∈ table, w &&& r.mask = r.pattern ∧ i = r.build w := by
  simp only [decode_command_iff, Row.selects, beq_iff_eq, eq_comm (a := i)]

theorem exists_decode_illegal_iff_mask (w : CmdWord) :
    (∃ why, decode w = .illegal why) ↔ ∀ r ∈ table, w &&& r.mask ≠ r.pattern := by
  simp only [decode_illegal_iff, Row.selects, beq_eq_false_iff_ne, exists_and_left, exists_eq, and_true]

/-- A row selects a word of its own opcode exactly when the must-be-zero fields are zero (R76 (b)). -/
theorem selects_iff_zeroFields {r : Row} (hr : r ∈ table) {w : CmdWord} (h : opcOf w = opcOf r.pattern) :
    r.selects w = true ↔ ∀ f ∈ r.zeroFields, w.extractLsb' f.1 f.2 = 0#f.2 := by
  obtain ⟨mask, pattern⟩ := mask_and_pattern_of_mem_table r hr
  obtain ⟨bounds, inMask, outOfPattern⟩ := zeroFields_of_mem_table r hr
  rw [← and_fieldsMask_eq_zero_iff w bounds, Row.selects, beq_iff_eq]
  constructor
  · intro selected
    rw [← inMask, ← BitVec.and_assoc, selected, outOfPattern]
  · intro clear
    have high : w &&& fieldMask 32 8 = r.pattern := by
      rw [pattern, ← h]
      exact and_fieldMask (by decide) w
    rw [mask, BitVec.and_or_distrib_left, high, clear]
    exact BitVec.or_zero

theorem opcListed_iff (opc : Byte) : opcListed opc = true ↔ ∃ r ∈ table, opcOf r.pattern = opc := by
  simp [opcListed]

/-- The opcodes outside the map of R73 (R76 (a)). -/
theorem opcListed_eq_false_iff_toNat (opc : Byte) :
    opcListed opc = false ↔ (0x04 ≤ opc.toNat ∧ opc.toNat ≤ 0x0F) ∨ 0x17 ≤ opc.toNat := by
  simp [opcListed, table, opcOf, ← BitVec.toNat_inj]
  omega

theorem decode_reservedOpcode_iff (w : CmdWord) :
    decode w = .illegal .reservedOpcode ↔ opcListed (opcOf w) = false := by
  rw [decode_illegal_iff]
  constructor
  · rintro ⟨-, why⟩
    by_contra listed
    rw [if_pos (Bool.not_eq_false _ ▸ listed)] at why
    cases why
  · intro unlisted
    refine ⟨fun r hr => Bool.eq_false_iff.2 fun selected => ?_, by rw [unlisted]; rfl⟩
    exact Bool.eq_false_iff.1 unlisted ((opcListed_iff _).2 ⟨r, hr, (opc_of_selects hr selected).symm⟩)

/-- The row of the word's opcode is the only one that could select it, so one nonzero field makes the word illegal. -/
theorem decode_mustBeZero_iff (w : CmdWord) : decode w = .illegal .mustBeZero ↔
    ∃ r ∈ table, opcOf w = opcOf r.pattern ∧ ∃ f ∈ r.zeroFields, w.extractLsb' f.1 f.2 ≠ 0#f.2 := by
  rw [decode_illegal_iff]
  constructor
  · rintro ⟨unselected, why⟩
    have listed : opcListed (opcOf w) = true := by
      by_contra unlisted
      rw [if_neg unlisted] at why
      cases why
    obtain ⟨r, hr, opc⟩ := (opcListed_iff _).1 listed
    have nonzero := mt (selects_iff_zeroFields hr opc.symm).2 (Bool.eq_false_iff.1 (unselected r hr))
    push Not at nonzero
    exact ⟨r, hr, opc.symm, nonzero⟩
  · rintro ⟨r, hr, opc, f, hf, nonzero⟩
    have listed := (opcListed_iff _).2 ⟨r, hr, opc.symm⟩
    refine ⟨fun r' hr' => Bool.eq_false_iff.2 fun selected => ?_, (if_pos listed).symm⟩
    cases row_eq_of_opc hr' hr ((opc_of_selects hr' selected).symm.trans opc)
    exact nonzero ((selects_iff_zeroFields hr opc).1 selected f hf)

end Sys2Proof

namespace Sys2Proof.Machine

theorem commandPort_illegal {w : CmdWord} {why : IllegalWord} {s : State} (d : decode w = .illegal why)
    (idle : s.phase = .idle) : commandPort w s = .next (illegalWord s) := by
  rw [commandPort, d]
  exact accept_idle illegalWord idle

theorem assembleLine_of_wf {l : AsmLine} (h : l.wf = true) : assembleLine l = .ok ((expandLine l).map encode) :=
  if_pos h

/-! ### The obligations -/

/-- Settles O4: the rows of the opcode map, written out, in the two answers of the decoder. -/
theorem decodeIsTheMaskTable : Obligations.DecodeIsTheMaskTable := by
  unfold Obligations.DecodeIsTheMaskTable
  refine fun w => ⟨fun i => ?command, ?illegal⟩
  case command =>
    rw [decode_command_iff_mask]
    simp only [table, List.mem_cons, List.not_mem_nil, or_false, or_and_right, exists_or, exists_eq_left,
      modeOf, d8Of, a7Of, cmdOf, d16Of]
  case illegal =>
    rw [exists_decode_illegal_iff_mask]
    simp only [table, List.forall_mem_cons, List.not_mem_nil, false_imp_iff, implies_true, and_true]

/-- Settles O5: an unlisted opcode, or a nonzero field of the row that has the word's opcode; an accepted illegal word
is `illegalWord`. -/
theorem illegalIsReservedOpcodeOrMustBeZero : Obligations.IllegalIsReservedOpcodeOrMustBeZero := by
  unfold Obligations.IllegalIsReservedOpcodeOrMustBeZero
  refine fun w => ⟨(decode_reservedOpcode_iff w).trans (opcListed_eq_false_iff_toNat (opcOf w)), ?mustBeZero,
    fun why s => commandPort_illegal⟩
  case mustBeZero =>
    rw [decode_mustBeZero_iff]
    simp [table, Row.zeroFields, opcOf, or_and_right, exists_or, extractLsb'_one_eq_zero_iff]

/-- Settles O6: CRC is CRCCLR and one CRCBYTE for each operand, whose word is `0x0300000000` plus the byte. -/
theorem pseudoInstructionsExpand : Obligations.PseudoInstructionsExpand := by
  unfold Obligations.PseudoInstructionsExpand
  refine ⟨rfl, rfl, fun b0 bs h0 hs => ?crc⟩
  have inRange : ∀ b ∈ b0 :: bs, b ≤ 0xFF := List.forall_mem_cons.2 ⟨h0, hs⟩
  have wf : (AsmLine.crc b0 bs).wf = true := by simpa [AsmLine.wf, inByte] using inRange
  have words : ((b0 :: bs).map fun b => Instr.crcbyte (BitVec.ofNat 8 b)).map encode =
      (b0 :: bs).map fun b => BitVec.ofNat 40 (0x0300000000 + b) := by
    rw [List.map_map]
    exact List.map_congr_left fun b hb => encode_crcbyte_ofNat (inRange b hb)
  rw [assembleLine_of_wf wf, expandLine, List.map_cons, words]
  rfl

end Sys2Proof.Machine

/-! # Local commands (40_control_and_crc.md)

NOP, CRCCLR and CRCBYTE at the command port, with their must-be-zero words (R102 to R104), and what a bus command does
with the CRC it finds. -/

namespace Sys2Proof

/-- A word is zero when its OPC and all bits below it are. -/
theorem eq_zero_of_opc_of_low {w : CmdWord} (opc : opcOf w = 0#8) (low : w.extractLsb' 0 32 = 0#32) : w = 0#40 := by
  have opcNat : w.toNat / 2 ^ 32 % 2 ^ 8 = 0 := by
    simpa [opcOf, Nat.shiftRight_eq_div_pow] using congrArg BitVec.toNat opc
  have lowNat : w.toNat % 2 ^ 32 = 0 := by simpa using congrArg BitVec.toNat low
  bv_omega

end Sys2Proof

namespace Sys2Proof.Machine

/-! ### The command port, by the row of the opcode map -/

theorem commandPort_command {w : CmdWord} {i : Instr} (d : decode w = .command i) (s : State) :
    commandPort w s = exec i s := by
  rw [commandPort, d]

section Port

variable {w : CmdWord} {s : State}

/-- A word with the opcode of a row that has one must-be-zero field runs the row's command when the field is zero, and
is an illegal word otherwise (R76 (b)). -/
theorem commandPort_of_zeroFields_singleton {r : Row} (hr : r ∈ table) {lo len : Nat}
    (field : r.zeroFields = [(lo, len)]) (opc : opcOf w = opcOf r.pattern) {i : Instr} (build : r.build w = i)
    (idle : s.phase = .idle) :
    commandPort w s = if w.extractLsb' lo len = 0#len then exec i s else .next (illegalWord s) := by
  split_ifs with zero
  · have selected : r.selects w = true := (selects_iff_zeroFields hr opc).2 (by simpa [field] using zero)
    exact commandPort_command (build ▸ decode_of_selects hr selected) s
  · have illegal : decode w = .illegal .mustBeZero :=
      (decode_mustBeZero_iff w).2 ⟨r, hr, opc, (lo, len), by simp [field], zero⟩
    exact commandPort_illegal illegal idle

theorem commandPort_of_opc_nop (opc : opcOf w = 0x00) (idle : s.phase = .idle) :
    commandPort w s = if w.extractLsb' 0 32 = 0 then exec .nop s else .next (illegalWord s) :=
  commandPort_of_zeroFields_singleton (r := table[0]) (List.getElem_mem _) rfl (opc.trans (by decide)) rfl idle

theorem commandPort_of_opc_crcclr (opc : opcOf w = 0x02) (idle : s.phase = .idle) :
    commandPort w s = if w.extractLsb' 0 32 = 0 then exec .crcclr s else .next (illegalWord s) :=
  commandPort_of_zeroFields_singleton (r := table[2]) (List.getElem_mem _) rfl (opc.trans (by decide)) rfl idle

theorem commandPort_of_opc_crcbyte (opc : opcOf w = 0x03) (idle : s.phase = .idle) :
    commandPort w s = if w.extractLsb' 8 24 = 0 then exec (.crcbyte (d8Of w)) s else .next (illegalWord s) :=
  commandPort_of_zeroFields_singleton (r := table[3]) (List.getElem_mem _) rfl (opc.trans (by decide)) rfl idle

end Port

/-! ### The commands, accepted -/

section Accepted

variable {s : State}

theorem exec_nop_idle (idle : s.phase = .idle) : exec .nop s = .next (report .complete s) :=
  (exec_eq_accept _ s).trans (accept_idle _ idle)

theorem exec_crcclr_idle (idle : s.phase = .idle) :
    exec .crcclr s = .next (report .complete { s with crc := s.params.crcInit }) :=
  (exec_eq_accept _ s).trans (accept_idle _ idle)

theorem exec_crcbyte_idle (d8 : Byte) (idle : s.phase = .idle) :
    exec (.crcbyte d8) s = .next (report .complete { s with crc := crc8Step s.crc d8 }) :=
  (exec_eq_accept _ s).trans (accept_idle _ idle)

/-- The issue of a bus command overwrites CRC (R131, R133), so it does not depend on the CRC it finds. -/
theorem exec_bus_online_crc {i : Instr} (bus : i.isBus = true) (idle : s.phase = .idle)
    (online : s.offline = false) (c : Byte) : exec i { s with crc := c } = exec i s := by
  obtain ⟨⟨op, a7, cmd, d16⟩, parts⟩ := Option.isSome_iff_exists.1 bus
  rw [exec_busParts parts idle, exec_busParts (s := { s with crc := c }) parts idle,
    busCommand_online op a7 cmd d16 online, busCommand_online (s := { s with crc := c }) op a7 cmd d16 online]
  rfl

end Accepted

/-- Folding CRC into itself clears it: the two cancel before the first shift (R104). -/
theorem crc8Step_self (c : Byte) : crc8Step c c = 0x00 := by
  rw [crc8Step_eq, BitVec.xor_self]
  rfl

/-! ### The obligations -/

/-- Settles O12: every word of OPC 0x00 but the zero word has a bit set in NOP's must-be-zero field. -/
theorem nopOnlyReportsComplete : Obligations.NopOnlyReportsComplete := by
  unfold Obligations.NopOnlyReportsComplete
  refine fun s idle => ⟨exec_nop_idle idle, ?word, fun w opc nonzero => ?malformed⟩
  case word => exact (commandPort_command (by decide) s).trans (exec_nop_idle idle)
  case malformed =>
    have operands : w.extractLsb' 0 32 ≠ 0 := fun low => nonzero (eq_zero_of_opc_of_low opc low)
    rw [commandPort_of_opc_nop opc idle, if_neg operands]
    rfl

/-- Settles O13: the accepted CRCCLR, and its row's must-be-zero field. -/
theorem crcclrLoadsCrcInit : Obligations.CrcclrLoadsCrcInit := by
  unfold Obligations.CrcclrLoadsCrcInit
  refine fun s idle => ⟨exec_crcclr_idle idle, ?word, fun w opc operands => ?malformed, fun already => ?corner⟩
  case word => exact (commandPort_command (by decide) s).trans (exec_crcclr_idle idle)
  case malformed =>
    rw [commandPort_of_opc_crcclr opc idle, if_neg operands]
    rfl
  case corner =>
    rw [exec_crcclr_idle idle, ← already]
    rfl

/-- Settles O14: the accepted CRCBYTE, the one must-be-zero field of its row, and the CRC that a bus command
overwrites. -/
theorem crcbyteFoldsOneByte : Obligations.CrcbyteFoldsOneByte := by
  unfold Obligations.CrcbyteFoldsOneByte
  refine ⟨fun d8 s => exec_crcbyte_idle d8, fun w s idle opc => ?word, crc8Step_self, by decide,
    fun i s c bus idle online => exec_bus_online_crc bus idle online c⟩
  case word =>
    rw [commandPort_of_opc_crcbyte opc idle, exec_crcbyte_idle _ idle]
    rfl

end Sys2Proof.Machine

/-! # The frame enumerator (41_frame_enumerator.md)

The response bytes that a transaction's symbols request (R143), and the refusal of a bus command while OFFLINE = 1
(R132). -/

namespace Sys2Proof.Machine

/-! ### Requests in a list of symbols -/

theorem requestCount_append (xs ys : List Symbol) : requestCount (xs ++ ys) = requestCount xs + requestCount ys := by
  simp only [requestCount, List.count_append]
  omega

theorem requestCount_eq_zero_iff (ss : List Symbol) :
    requestCount ss = 0 ↔ ss.count .recv = 0 ∧ ss.count .recvLast = 0 :=
  Nat.add_eq_zero_iff

theorem requestCount_pecSend (p : Params) (pec : Bool) (cb : List Byte) : requestCount (pecSend p pec cb) = 0 := by
  cases pec <;> rfl

theorem recvs_succ (k : Nat) : recvs (k + 1) = List.replicate k .recv ++ [.recvLast] := rfl

theorem count_recv_recvs (m : Nat) : (recvs m).count .recv = m - 1 := by
  simp [recvs]

theorem count_recvLast_recvs (m : Nat) : (recvs m).count .recvLast = 1 := by
  simp [recvs, List.count_replicate]

/-! ### Reads and writes -/

section Operation

variable (p : Params) {op : BusOp} (a7 : Addr7) (cmd : Byte) (d16 : Half) (pec : Bool)

theorem one_le_ndata_of_read (read : op.isWrite = false) : 1 ≤ ndata op := by
  cases op with
  | rdw | rdb | rcv | ara => decide
  | wrw | wrb | snd => cases read

theorem ndata_of_write (write : op.isWrite = true) : ndata op = 0 := by
  cases op with
  | wrw | wrb | snd => rfl
  | rdw | rdb | rcv | ara => cases write

theorem one_le_nrequested_of_read (read : op.isWrite = false) : 1 ≤ nrequested op pec :=
  (one_le_ndata_of_read read).trans (Nat.le_add_right _ _)

theorem nrequested_of_write (write : op.isWrite = true) : nrequested op pec = 0 := by
  simp [nrequested, ndata_of_write write]

/-- A read sends its address part, requests its `m` bytes and stops (R136, R138, R140, R142). -/
theorem symbols_of_read (read : op.isWrite = false) :
    ∃ head, symbols p op a7 cmd d16 pec = head ++ recvs (nrequested op pec) ++ [.stop] ∧ requestCount head = 0 := by
  cases op with
  | rdw | rdb | rcv | ara => exact ⟨_, rfl, rfl⟩
  | wrw | wrb | snd => cases read

/-- A write sends its operands and, when checked, its PEC byte, and stops (R137, R139, R141). -/
theorem symbols_of_write (write : op.isWrite = true) :
    ∃ head, symbols p op a7 cmd d16 pec = head ++ pecSend p pec (covered p op a7 cmd d16) ++ [.stop] ∧
      requestCount head = 0 := by
  cases op with
  | wrw | wrb | snd => exact ⟨_, rfl, rfl⟩
  | rdw | rdb | rcv | ara => cases write

theorem count_recv_symbols_of_read (read : op.isWrite = false) :
    (symbols p op a7 cmd d16 pec).count .recv = nrequested op pec - 1 := by
  obtain ⟨head, shape, noRequest⟩ := symbols_of_read p a7 cmd d16 pec read
  obtain ⟨noRecv, -⟩ := (requestCount_eq_zero_iff head).1 noRequest
  simp [shape, noRecv, count_recv_recvs]

theorem count_recvLast_symbols_of_read (read : op.isWrite = false) :
    (symbols p op a7 cmd d16 pec).count .recvLast = 1 := by
  obtain ⟨head, shape, noRequest⟩ := symbols_of_read p a7 cmd d16 pec read
  obtain ⟨-, noRecvLast⟩ := (requestCount_eq_zero_iff head).1 noRequest
  simp [shape, noRecvLast, count_recvLast_recvs]

theorem requestCount_symbols_of_write (write : op.isWrite = true) :
    requestCount (symbols p op a7 cmd d16 pec) = 0 := by
  obtain ⟨head, shape, noRequest⟩ := symbols_of_write p a7 cmd d16 pec write
  rw [shape, requestCount_append, requestCount_append, noRequest, requestCount_pecSend]
  rfl

end Operation

/-! ### The obligations -/

/-- Settles O30: a read's requests are the `recvs` between its address part and its stop; nothing a write sends is a
request. -/
theorem receiveRequests : Obligations.ReceiveRequests := by
  unfold Obligations.ReceiveRequests
  refine ⟨recvs_succ, fun p op a7 cmd d16 pec => ⟨fun read => ?read, fun write => ?write⟩⟩
  case read =>
    exact ⟨one_le_nrequested_of_read pec read, count_recv_symbols_of_read p a7 cmd d16 pec read,
      count_recvLast_symbols_of_read p a7 cmd d16 pec read⟩
  case write =>
    exact ⟨nrequested_of_write pec write, requestCount_symbols_of_write p a7 cmd d16 pec write⟩

/-- Settles O28: every bus command ends in `offlineRefusal` while OFFLINE = 1, whose next state the statement writes
out. -/
theorem offlineRefusesBusCommands : Obligations.OfflineRefusesBusCommands := by
  unfold Obligations.OfflineRefusesBusCommands
  exact fun i s => exec_bus_offline

end Sys2Proof.Machine

/-! # The error-flag decoder (42_error_flag_decoder.md)

What the table of results writes (R180), the classification of a response by its steps (R174), and the writers of
TXLOG, RXLOG and the phase FRAMED over a step (R183). -/

namespace Sys2Proof.Machine

/-! ### Applying a result (R180) -/

theorem applyResult_complete_of_value {op : BusOp} {data : List Byte} {v : Half} (value : readValue op data = some v)
    (s : State) : applyResult op .complete data s =
      { s with outcome := .complete, err := 0x00, rvalid := true, rdata := v, araNone := false } := by
  simp only [applyResult, value]
  rfl

theorem applyResult_complete_of_no_value {op : BusOp} {data : List Byte} (noValue : readValue op data = none)
    (s : State) : applyResult op .complete data s =
      { s with outcome := .complete, err := 0x00, rvalid := false, araNone := false } := by
  simp only [applyResult, noValue]
  rfl

theorem readValue_of_byte_read {op : BusOp} (byteRead : op = .rdb ∨ op = .rcv) (b0 : Byte) (rest : List Byte) :
    readValue op (b0 :: rest) = some (0#8 ++ b0) := by
  rcases byteRead with rfl | rfl <;> exact congrArg some (setWidth_eq_append b0)

/-- A byte shifted right by one and zero-extended to a word is its upper seven bits below zeros. -/
theorem setWidth_ushiftRight_one_eq_append (b : Byte) : (b >>> 1).setWidth 16 = (0#9 ++ b.extractLsb' 1 7 : Half) := by
  apply BitVec.eq_of_getLsbD_eq
  intro i hi
  rw [BitVec.getLsbD_append]
  by_cases low : i < 7
  · simp [low, hi, show 1 + i < 16 by omega]
  · simp [low, BitVec.getLsbD_of_ge b (1 + i) (by omega)]

theorem readValue_ara (b0 : Byte) (rest : List Byte) :
    readValue .ara (b0 :: rest) = some (0#9 ++ b0.extractLsb' 1 7) :=
  congrArg some (setWidth_ushiftRight_one_eq_append b0)

theorem readValue_of_write {op : BusOp} (write : op.isWrite = true) (data : List Byte) : readValue op data = none := by
  cases op with
  | wrw | wrb | snd => rfl
  | rdw | rdb | rcv | ara => cases write

/-! ### The tests of the decoder (R171 to R175) -/

theorem sawNack_eq_true_iff (p : Params) (r : Text) : sawNack p r = true ↔ p.tokens.nackCh ∈ r := by
  simp [sawNack]

theorem length_expectedRegion_lt_iff (t : Txn) (r : Text) :
    (expectedRegion t r).length < 2 * t.m ↔ r.length < 2 * t.m := by
  simp [expectedRegion]

theorem remainder_ne_nil_iff (t : Txn) (r : Text) : remainder t r ≠ [] ↔ 2 * t.m < r.length := by
  simp [remainder]

theorem le_length_of_regionFull {t : Txn} {r : Text} (full : regionFull t r = true) : 2 * t.m ≤ r.length := by
  simp only [regionFull, Bool.and_eq_true, decide_eq_true_eq] at full
  obtain ⟨len, -⟩ := full
  exact len ▸ List.length_take_le' _ _

theorem regionFull_eq_false_of_short {t : Txn} {r : Text} (short : r.length < 2 * t.m) : regionFull t r = false :=
  Bool.eq_false_iff.2 fun full => short.not_ge (le_length_of_regionFull full)

@[simp] theorem responseData_of_not_full {t : Txn} {r : Text} (notFull : regionFull t r = false) :
    responseData t r = [] := by
  simp [responseData, notFull]

/-- Step 1 of R174: a checked read with a full region whose PEC is not the one recomputed. -/
def PecMismatch (p : Params) (t : Txn) (r : Text) : Prop :=
  t.pec = true ∧ 0 < t.n ∧ regionFull t r = true ∧ receivedPec t r ≠ crcAfter p t r

theorem pecTest_eq_true_iff (p : Params) (t : Txn) (r : Text) :
    (t.pec && decide (0 < t.n) && regionFull t r && receivedPec t r != crcAfter p t r) = true ↔
      PecMismatch p t r := by
  simp [PecMismatch, and_assoc]

theorem PecMismatch.le_length {p : Params} {t : Txn} {r : Text} (h : PecMismatch p t r) : 2 * t.m ≤ r.length :=
  have ⟨_, _, full, _⟩ := h
  le_length_of_regionFull full

/-! ### The classification, step by step (R174) -/

/-- How steps 1 to 7 of R174 classify a response, each step with the failure of the tests before it. -/
inductive TextClass (p : Params) (t : Txn) (r : Text) : Classified → Prop where
  | pecMismatch (pec : PecMismatch p t r) :
      TextClass p t r ⟨.pecMismatch, responseData t r, sawOffline p r, crcAfter p t r⟩
  | bridgeOffline (pec : ¬PecMismatch p t r) (off : p.tokens.offlineCh ∈ r) :
      TextClass p t r ⟨.bridgeOffline, [], true, crcAfter p t r⟩
  | noResponder (pec : ¬PecMismatch p t r) (off : p.tokens.offlineCh ∉ r) (nack : p.tokens.nackCh ∈ r)
      (ara : t.op = .ara) : TextClass p t r ⟨.noResponder, [], false, crcAfter p t r⟩
  | notAcked (pec : ¬PecMismatch p t r) (off : p.tokens.offlineCh ∉ r) (nack : p.tokens.nackCh ∈ r)
      (ara : t.op ≠ .ara) : TextClass p t r ⟨.notAcked, [], false, crcAfter p t r⟩
  | timeout (pec : ¬PecMismatch p t r) (off : p.tokens.offlineCh ∉ r) (nack : p.tokens.nackCh ∉ r)
      (short : r.length < 2 * t.m) : TextClass p t r ⟨.timeout, [], false, crcAfter p t r⟩
  | notHex (pec : ¬PecMismatch p t r) (off : p.tokens.offlineCh ∉ r) (nack : p.tokens.nackCh ∉ r)
      (long : 2 * t.m ≤ r.length) (notFull : regionFull t r = false) :
      TextClass p t r ⟨.desync, [], false, crcAfter p t r⟩
  | unread (pec : ¬PecMismatch p t r) (off : p.tokens.offlineCh ∉ r) (nack : p.tokens.nackCh ∉ r)
      (full : regionFull t r = true) (more : 2 * t.m < r.length) :
      TextClass p t r ⟨.desync, responseData t r, false, crcAfter p t r⟩
  | complete (pec : ¬PecMismatch p t r) (off : p.tokens.offlineCh ∉ r) (nack : p.tokens.nackCh ∉ r)
      (full : regionFull t r = true) (exactly : r.length = 2 * t.m) :
      TextClass p t r ⟨.complete, responseData t r, false, crcAfter p t r⟩

theorem classifyText_class (p : Params) (t : Txn) (r : Text) : TextClass p t r (classifyText p t r) := by
  simp only [classifyText, sawOffline_eq_true_iff, sawNack_eq_true_iff,
    length_expectedRegion_lt_iff, remainder_ne_nil_iff, Bool.not_eq_true']
  split_ifs with pec off nack ara short notFull more
  all_goals rw [pecTest_eq_true_iff] at pec
  · exact .pecMismatch pec
  · exact .bridgeOffline pec off
  · exact .noResponder pec off nack ara
  · exact .notAcked pec off nack ara
  · exact .timeout pec off nack short
  · exact .notHex pec off nack (not_lt.1 short) notFull
  · exact .unread pec off nack (eq_true_of_ne_false notFull) more
  · exact .complete pec off nack (eq_true_of_ne_false notFull) (by omega)

theorem TextClass.crcOut_eq {p : Params} {t : Txn} {r : Text} {c : Classified} (h : TextClass p t r c) :
    c.crcOut = crcAfter p t r := by
  cases h <;> rfl

/-! ### The logs and FRAMED over a step (R183) -/

theorem respond_txlog (resp : Response) {s : State} {t : Txn} (h : s.phase = .awaitingResponse t) :
    (respond resp s).txlog = s.txlog := by
  obtain ⟨o, rv, an, rd, e, -⟩ := respond_cases resp h
  rw [e]

section CommandEffect

variable {w : CmdWord} {s s' : State}

theorem CommandEffect.txlog_eq (e : CommandEffect w s s') : s'.txlog = s.txlog := by
  cases e <;> rfl

theorem CommandEffect.rxlog_eq (e : CommandEffect w s s') : s'.rxlog = s.rxlog := by
  cases e <;> rfl

theorem CommandEffect.hostActs_eq (e : CommandEffect w s s') : s'.hostActs = s.hostActs := by
  cases e <;> rfl

end CommandEffect

section Step

variable {s s' : State}

/-- Only the transmission of the outstanding transaction emits a line. -/
theorem step_txlog_cases (h : step s = .next s') :
    s'.txlog = s.txlog ∨
      ∃ t, s.phase = .framed t ∧ s.mover = .block ∧ s'.txlog = s.txlog ++ [t.line] ∧
        s'.phase = .awaitingResponse t := by
  cases step_cases h with
  | waits => exact .inl rfl
  | command w rest ha now s' e => exact .inl e.txlog_eq
  | reads index rest ha now => exact .inl rfl
  | reset rest ha now => exact .inl rfl
  | transmits t ph mv => exact .inr ⟨t, ph, mv, rfl, rfl⟩
  | responds t ph mv resp rest hb => exact .inl (respond_txlog resp (s := s.popResponse) ph)

/-- A transaction in FRAMED was there before the step, or the step consumed a command word. -/
theorem step_framed_cases {t : Txn} (h : step s = .next s') (framed : s'.phase = .framed t) :
    s.phase = .framed t ∨ ∃ w, s.actNow = some (.command w) ∧ s.hostActs = .command w :: s'.hostActs := by
  cases step_cases h with
  | waits => exact .inl framed
  | command w rest ha now s' e =>
    have consumed : s'.hostActs = rest := by rw [e.hostActs_eq, State.popAct_hostActs, ha, List.tail_cons]
    exact .inr ⟨w, now, consumed ▸ ha⟩
  | reads index rest ha now => exact .inl framed
  | reset rest ha now => cases framed
  | transmits t' ph mv => cases framed
  | responds t' ph mv resp rest hb =>
    rw [respond_phase resp (s := s.popResponse) ph] at framed
    cases framed

/-- A step that takes a response emits nothing and ends the transaction. -/
theorem step_rxlog_cases (h : step s = .next s') :
    s'.rxlog = s.rxlog ∨ (s'.txlog = s.txlog ∧ s'.phase = .idle) := by
  cases step_cases h with
  | waits => exact .inl rfl
  | command w rest ha now s' e => exact .inl e.rxlog_eq
  | reads index rest ha now => exact .inl rfl
  | reset rest ha now => exact .inl rfl
  | transmits t ph mv => exact .inl rfl
  | responds t ph mv resp rest hb =>
    exact .inr ⟨respond_txlog resp (s := s.popResponse) ph, respond_phase resp (s := s.popResponse) ph⟩

end Step

/-! ### The obligations -/

/-- Settles O35: each row is `applyResult` at its result; a read's row turns on the value that `readValue` gives. -/
theorem resultsAreApplied : Obligations.ResultsAreApplied := by
  unfold Obligations.ResultsAreApplied
  rintro s t resp c u ph rfl rfl
  rw [respond_awaiting resp ph]
  refine ⟨?word, ?byte, ?alert, ?write, ?noResponder, ?notAcked, ?bridgeOffline, ?pecMismatch, ?desync, ?timeout⟩
  case word =>
    intro b0 b1 rest res op data
    rw [res, data, op]
    exact applyResult_complete_of_value rfl _
  case byte =>
    intro b0 rest res op data
    rw [res, data]
    exact applyResult_complete_of_value (readValue_of_byte_read op b0 rest) _
  case alert =>
    intro b0 rest res op data
    rw [res, data, op]
    exact applyResult_complete_of_value (readValue_ara b0 rest) _
  case write =>
    intro res write
    rw [res]
    exact applyResult_complete_of_no_value (readValue_of_write write _) _
  all_goals
    intro res
    rw [res]
    rfl

/-- Settles O37: the cases of `TextClass` exclude one another, so in each of them every condition of the statement is
decided. -/
theorem classificationOrder : Obligations.ClassificationOrder := by
  unfold Obligations.ClassificationOrder
  refine fun p t => ⟨rfl, rfl, rfl, rfl, fun r mismatch test => ?_⟩
  obtain rfl : mismatch = PecMismatch p t r := propext test
  clear test
  have cls := classifyText_class p t r
  rw [classify, classifyText_offlineSeen, sawOffline_eq_true_iff, cls.crcOut_eq, crcAfter]
  generalize classifyText p t r = c at cls ⊢
  cases cls with
  | pecMismatch pec => simp [pec, pec.le_length]
  | bridgeOffline pec off => simp [pec, off]
  | noResponder pec off nack ara => simp [pec, off, nack, ara]
  | notAcked pec off nack ara => simp [pec, off, nack, ara]
  | timeout pec off nack short => simp [pec, off, nack, short, regionFull_eq_false_of_short short]
  | notHex pec off nack long notFull => simp [pec, off, nack, long, notFull]
  | unread pec off nack full more => simp [pec, off, nack, full, more, more.le, more.ne']
  | complete pec off nack full exactly => simp [pec, off, nack, full, exactly]

/-- Settles O44: the three claims over every effect a step can have. -/
theorem noRetry : Obligations.NoRetry := by
  unfold Obligations.NoRetry
  exact fun s s' h => ⟨step_txlog_cases h, fun t => step_framed_cases h, (step_rxlog_cases h).resolve_left⟩

end Sys2Proof.Machine

/-! # The registers as the host reads them (10_state.md)

The bits of STATUS (R23), the port's map (R21), and the values that reset gives (R34, R230). -/

namespace Sys2Proof.Machine

/-! ### The bits of STATUS -/

section Status

variable (s : State)

/-- The fields of STATUS from bit 0 upwards, each with the bits that the fields below it leave. -/
theorem getLsbD_statusWord (i : Nat) : (statusWord s).getLsbD i =
    if i < 1 then (BitVec.ofBool s.busy).getLsbD i
    else if i - 1 < 2 then (phaseCode s.phase).getLsbD (i - 1)
    else if i - 3 < 1 then (BitVec.ofBool s.pecEn).getLsbD (i - 3)
    else if i - 4 < 1 then (BitVec.ofBool s.offline).getLsbD (i - 4)
    else if i - 5 < 1 then (BitVec.ofBool s.rvalid).getLsbD (i - 5)
    else if i - 6 < 1 then (BitVec.ofBool s.araNone).getLsbD (i - 6)
    else if i - 7 < 1 then (BitVec.ofBool s.ovr).getLsbD (i - 7)
    else if i - 8 < 4 then (outcomeCode s.outcome).getLsbD (i - 8)
    else false := by
  unfold statusWord
  simp only [BitVec.getLsbD_append]
  simp only [Nat.sub_sub, Nat.reduceAdd, BitVec.getLsbD_zero]

theorem statusWord_busy : (statusWord s).getLsbD 0 = s.busy := by
  rw [getLsbD_statusWord]; simp

theorem statusWord_phase : (statusWord s).extractLsb' 1 2 = phaseCode s.phase := by
  apply BitVec.eq_of_getLsbD_eq
  intro i hi
  rw [BitVec.getLsbD_extractLsb', getLsbD_statusWord]
  simp [hi]

theorem statusWord_pecEn : (statusWord s).getLsbD 3 = s.pecEn := by
  rw [getLsbD_statusWord]; simp

theorem statusWord_offline : (statusWord s).getLsbD 4 = s.offline := by
  rw [getLsbD_statusWord]; simp

theorem statusWord_rvalid : (statusWord s).getLsbD 5 = s.rvalid := by
  rw [getLsbD_statusWord]; simp

theorem statusWord_araNone : (statusWord s).getLsbD 6 = s.araNone := by
  rw [getLsbD_statusWord]; simp

theorem statusWord_ovr : (statusWord s).getLsbD 7 = s.ovr := by
  rw [getLsbD_statusWord]; simp

theorem statusWord_outcome : (statusWord s).extractLsb' 8 4 = outcomeCode s.outcome := by
  apply BitVec.eq_of_getLsbD_eq
  intro i hi
  rw [BitVec.getLsbD_extractLsb', getLsbD_statusWord]
  interval_cases i <;> simp

theorem statusWord_reserved : (statusWord s).extractLsb' 12 4 = 0 := by
  apply BitVec.eq_of_getLsbD_eq
  intro i hi
  rw [BitVec.getLsbD_extractLsb', getLsbD_statusWord]
  interval_cases i <;> simp

end Status

/-! ### PHASE as STATUS shows it -/

theorem busy_eq_decide (s : State) : s.busy = decide (s.phase ≠ .idle) := by
  unfold State.busy
  cases s.phase <;> simp

theorem phaseCode_eq_idle_iff (ph : Phase) : phaseCode ph = 0b00 ↔ ph = .idle := by
  cases ph <;> simp [phaseCode]

theorem phaseCode_eq_framed_iff (ph : Phase) : phaseCode ph = 0b01 ↔ ∃ t, ph = .framed t := by
  cases ph <;> simp [phaseCode]

theorem phaseCode_eq_awaiting_iff (ph : Phase) : phaseCode ph = 0b10 ↔ ∃ t, ph = .awaitingResponse t := by
  cases ph <;> simp [phaseCode]

/-! ### The register port, index by index -/

section Port

variable (s : State)

theorem readPort_status : readPort 0x00 s = statusWord s := rfl

theorem readPort_err : readPort 0x01 s = 0#8 ++ s.err := setWidth_eq_append s.err

theorem readPort_rdata : readPort 0x02 s = if s.rvalid then s.rdata else Config.rdataDraw s.draws := rfl

theorem readPort_crc : readPort 0x03 s = 0#8 ++ s.crc := setWidth_eq_append s.crc

theorem readPort_config : readPort 0x04 s = 0#8 ++ configWord s := setWidth_eq_append (configWord s)

theorem readPort_reserved {index : Byte} (reserved : 0x05 ≤ index.toNat) : readPort index s = 0x0000 := by
  have not_listed : ∀ k : Byte, k.toNat < 0x05 → index ≠ k := by
    rintro k small rfl
    omega
  rw [readPort, if_neg (not_listed 0x00 (by decide)), if_neg (not_listed 0x01 (by decide)),
    if_neg (not_listed 0x02 (by decide)), if_neg (not_listed 0x03 (by decide)), if_neg (not_listed 0x04 (by decide))]

end Port

/-! ### Moves of a block that has just been reset -/

theorem transmit_of_idle {s : State} (idle : s.phase = .idle) : transmit s = s := by
  rcases transmit_cases s with ⟨t, framed, -⟩ | ⟨-, kept⟩
  · rw [idle] at framed
    cases framed
  · exact kept

theorem bridgeMove_of_idle {s : State} (idle : s.phase = .idle) : bridgeMove s = s :=
  bridgeMove_waits s (.inl fun t awaiting => by rw [idle] at awaiting; cases awaiting)

/-! ### The obligations -/

/-- Settles O49: the five registers of the map, and the zeros above them. -/
theorem registerPortMap : Obligations.RegisterPortMap := by
  unfold Obligations.RegisterPortMap
  refine fun s => ⟨readPort_status s, readPort_err s, fun valid => ?rdata, readPort_crc s, readPort_config s,
    fun index => readPort_reserved s, fun index => ⟨_, rfl⟩⟩
  case rdata => rw [readPort_rdata, if_pos valid]

/-- Settles O50: the fields of STATUS one by one, PHASE through its code. -/
theorem statusLayout : Obligations.StatusLayout := by
  unfold Obligations.StatusLayout
  intro s
  rw [statusWord_phase]
  exact ⟨(statusWord_busy s).trans (busy_eq_decide s), phaseCode_eq_idle_iff _, phaseCode_eq_framed_iff _,
    phaseCode_eq_awaiting_iff _, statusWord_pecEn s, statusWord_offline s, statusWord_rvalid s, statusWord_araNone s,
    statusWord_ovr s, statusWord_outcome s, statusWord_reserved s, rfl, rfl, rfl, rfl, rfl, rfl, rfl, rfl⟩

/-- Settles O51: `assertReset` writes every register, and `State.reset` is the machine so written. -/
theorem resetValues : Obligations.ResetValues := by
  unfold Obligations.ResetValues
  exact ⟨fun s => ⟨Config.rdataAtReset, rfl⟩, fun s => rfl, rfl, rfl, by decide, by decide, rfl, rfl, rfl, rfl⟩

/-- Settles O52: after reset PHASE is IDLE, where neither the block nor the bridge has a move. -/
theorem resetAbandonsTheTransaction : Obligations.ResetAbandonsTheTransaction := by
  unfold Obligations.ResetAbandonsTheTransaction
  refine fun s => ⟨assertReset s, rfl, rfl, rfl, ?block, ?bridge⟩
  case block => exact congrArg _ (transmit_of_idle rfl)
  case bridge => exact congrArg _ (bridgeMove_of_idle rfl)

end Sys2Proof.Machine

/-! # The invariant (10_state.md)

Every start state meets it and every step keeps it: an idle block owes nothing to a transaction, and the three ways to
be busy are the issue, the transmission and a dropped word. -/

namespace Sys2Proof.Machine

/-! ### States that differ in nothing the invariant speaks of -/

section Inv

variable {s : State}

/-- The queues of host and bridge, the turns, and what the host has read are no part of the invariant. -/
theorem State.Inv.with_agents (inv : s.Inv) (acts : List HostAct) (bridge : List Response) (turns : List Agent)
    (reads : List (Byte × Half)) (draws : Nat) :
    ({ s with hostActs := acts, bridge := bridge, turns := turns, reads := reads, draws := draws } : State).Inv :=
  ⟨inv.tokensWf, inv.errMatches, inv.txnCaptured, inv.modeHeld, inv.busyQuiet, inv.busyOnline, inv.oneResult,
    inv.ovrRecorded, inv.logsAgree⟩

theorem State.Inv.popTurn (inv : s.Inv) : s.popTurn.Inv := inv.with_agents _ _ _ _ _

theorem State.Inv.popAct (inv : s.Inv) : s.popAct.Inv := inv.with_agents _ _ _ _ _

theorem State.Inv.popResponse (inv : s.Inv) : s.popResponse.Inv := inv.with_agents _ _ _ _ _

theorem State.Inv.readRegister (inv : s.Inv) (index : Byte) : (readRegister index s).Inv := inv.with_agents _ _ _ _ _

/-- A dropped word sets OVR and the record of the broken duty together (R241). -/
theorem State.Inv.dropWord (inv : s.Inv) : (dropWord s).Inv :=
  ⟨inv.tokensWf, inv.errMatches, inv.txnCaptured, inv.modeHeld, inv.busyQuiet, inv.busyOnline, inv.oneResult,
    fun _ => rfl, inv.logsAgree⟩

/-! ### An idle block -/

/-- The number of responses logged, whatever the phase, is at most the number of lines. -/
theorem State.Inv.rxlog_le (inv : s.Inv) : s.rxlog.length ≤ s.txlog.length :=
  (Nat.le_add_right _ _).trans inv.logsAgree

theorem busy_ne_true_of_idle (idle : s.phase = .idle) : s.busy ≠ true :=
  ne_true_of_eq_false ((busy_eq_false_iff s).2 idle)

/-- In IDLE there is no TXN, so only the five clauses that speak of no transaction are owed. -/
theorem inv_of_idle (idle : s.phase = .idle) (tokens : s.params.tokens.wf = true) (err : s.err = errFlag s.outcome)
    (one : ¬(s.rvalid = true ∧ s.araNone = true)) (ovr : s.ovr = true → s.hostFault = true)
    (logs : s.rxlog.length ≤ s.txlog.length) : s.Inv where
  tokensWf := tokens
  errMatches := err
  txnCaptured t ht := by simp [txn_eq_none_of_idle idle] at ht
  modeHeld t ht := by simp [txn_eq_none_of_idle idle] at ht
  busyQuiet t ht := by simp [txn_eq_none_of_idle idle] at ht
  busyOnline busy := absurd busy (busy_ne_true_of_idle idle)
  oneResult := one
  ovrRecorded := ovr
  logsAgree := by simpa [idle] using logs

/-- In IDLE PEC_EN, CRC and the outcome, with its ERR flag, are free. -/
theorem State.Inv.report_of_idle (inv : s.Inv) (idle : s.phase = .idle) (o : OutcomeCode) (pecEn : Bool) (crc : Byte) :
    (report o { s with pecEn := pecEn, crc := crc }).Inv :=
  inv_of_idle idle inv.tokensWf rfl inv.oneResult inv.ovrRecorded inv.rxlog_le

theorem State.Inv.offlineRefusal (inv : s.Inv) (idle : s.phase = .idle) : (offlineRefusal s).Inv :=
  inv_of_idle idle inv.tokensWf rfl (by simp) inv.ovrRecorded inv.rxlog_le

theorem State.Inv.assertReset (inv : s.Inv) : (assertReset s).Inv :=
  inv_of_idle rfl inv.tokensWf rfl (by simp) (by simp) inv.rxlog_le

/-! ### A busy block -/

theorem State.Inv.issue (inv : s.Inv) (online : s.offline = false) (op : BusOp) (a7 : Addr7) (cmd : Byte)
    (d16 : Half) : (issue op a7 cmd d16 s).Inv where
  tokensWf := inv.tokensWf
  errMatches := rfl
  txnCaptured := by rintro t ⟨⟩; rfl
  modeHeld := issue_modeHeld op a7 cmd d16 s
  busyQuiet := by rintro t ⟨⟩; exact ⟨rfl, rfl, rfl, rfl⟩
  busyOnline _ := online
  oneResult := by simp
  ovrRecorded := inv.ovrRecorded
  logsAgree := inv.rxlog_le

/-- Transmission keeps TXN and adds the line that the response to come is owed. -/
theorem State.Inv.transmitted (inv : s.Inv) {t : Txn} (framed : s.phase = .framed t) :
    ({ s with phase := .awaitingResponse t, txlog := s.txlog ++ [t.line] } : State).Inv :=
  have txn : s.txn = some t := (txn_eq_some_iff s t).2 (.inl framed)
  have busy : s.busy = true := (busy_eq_true_iff s).2 ⟨t, txn⟩
  { tokensWf := inv.tokensWf
    errMatches := inv.errMatches
    txnCaptured := by rintro _ ⟨⟩; exact inv.txnCaptured t txn
    modeHeld := by rintro _ ⟨⟩; exact inv.modeHeld t txn
    busyQuiet := by rintro _ ⟨⟩; exact inv.busyQuiet t txn
    busyOnline := fun _ => inv.busyOnline busy
    oneResult := inv.oneResult
    ovrRecorded := inv.ovrRecorded
    logsAgree := by simpa using inv.rxlog_le }

/-- The response pays off the one line outstanding (R32), and its result is one of the two at most (R180). -/
theorem State.Inv.respond (inv : s.Inv) {t : Txn} (awaiting : s.phase = .awaitingResponse t) (resp : Response) :
    (respond resp s).Inv := by
  obtain ⟨o, rv, an, rd, e, -, -, one, -⟩ := respond_cases resp awaiting
  have owed : s.rxlog.length + 1 ≤ s.txlog.length := by simpa [awaiting] using inv.logsAgree
  rw [e]
  exact inv_of_idle rfl inv.tokensWf rfl one inv.ovrRecorded (by simpa using owed)

/-! ### Commands, steps and runs -/

theorem State.Inv.of_commandEffect {w : CmdWord} {s' : State} (inv : s.Inv) (e : CommandEffect w s s') : s'.Inv := by
  cases e with
  | dropped _ => exact inv.dropWord
  | illegal idle _ _ => exact inv.report_of_idle idle .illegal s.pecEn s.crc
  | nop idle _ => exact inv.report_of_idle idle .complete s.pecEn s.crc
  | setmode idle mode _ => exact inv.report_of_idle idle .complete mode s.crc
  | crcclr idle _ => exact inv.report_of_idle idle .complete s.pecEn s.params.crcInit
  | crcbyte idle d8 _ => exact inv.report_of_idle idle .complete s.pecEn (crc8Step s.crc d8)
  | refused idle _ _ _ _ => exact inv.offlineRefusal idle
  | issued _ _ _ online op a7 cmd d16 _ => exact inv.issue online op a7 cmd d16

theorem State.Inv.of_step {s' : State} (inv : s.Inv) (h : step s = .next s') : s'.Inv := by
  cases step_cases h with
  | waits => exact inv.popTurn
  | command w rest ha now s' e => exact inv.popAct.of_commandEffect e
  | reads index rest ha now => exact inv.popAct.readRegister index
  | reset rest ha now => exact inv.popAct.assertReset
  | transmits t ph mv => exact inv.popTurn.transmitted ph
  | responds t ph mv resp rest hb => exact inv.popResponse.respond ph resp

theorem reset_inv : State.reset.Inv :=
  inv_of_idle rfl Config.openTokens.ok rfl (by decide) (by decide) (by decide)

theorem startState_inv (p : Params) (acts : List HostAct) (bridge : List Response) (turns : List Agent)
    (tokens : p.tokens.wf = true) : (startState p acts bridge turns).Inv :=
  inv_of_idle rfl tokens rfl (by simp [startState]) (by simp [startState]) (by simp [startState, State.reset])

theorem Reachable.inv (r : Reachable s) : s.Inv :=
  Reachable.of_invariant startState_inv State.Inv.of_step r

end Inv

/-! ### The obligations -/

/-- Settles O54: each effect a step can have keeps the invariant. -/
theorem everyStepKeepsTheInvariant : Obligations.EveryStepKeepsTheInvariant := by
  unfold Obligations.EveryStepKeepsTheInvariant
  exact fun s s' => State.Inv.of_step

/-- Settles O53: both states are idle, with logs as they were and no result, fault or record. -/
theorem invariantHoldsAtReset : Obligations.InvariantHoldsAtReset := by
  unfold Obligations.InvariantHoldsAtReset
  exact ⟨reset_inv, startState_inv⟩

/-- Settles O55: what `busyQuiet` and `busyOnline` of the invariant say, read off STATUS and the register port. -/
theorem midTransactionStatus : Obligations.MidTransactionStatus := by
  unfold Obligations.MidTransactionStatus
  intro s r busy
  obtain ⟨t, txn⟩ := (busy_eq_true_iff s).1 busy
  obtain ⟨outcome, rvalid, -, crc⟩ := r.inv.busyQuiet t txn
  refine ⟨t, txn, ?outcome, ?err, ?rvalid, ?crc, r.inv.busyOnline busy⟩
  case outcome => rw [statusWord_outcome, outcome]; rfl
  case err => rw [readPort_err, r.err_eq, outcome]; rfl
  case rvalid => rw [statusWord_rvalid, rvalid]
  case crc => rw [readPort_crc, crc]

end Sys2Proof.Machine

/-! # Commands and their words (30_encoding.md)

Encoding and decoding undo each other (R71, R74, R77): both are read off the four fields that `packWord` puts side by
side, as numbers. -/

namespace Sys2Proof

/-! ### Fields of a packed word -/

section Packed

variable (opc : Byte) (a7 : Addr7) (cmd : Byte) (d : Half)

theorem extractLsb'_packWord_toNat (lo len : Nat) : ((packWord opc a7 cmd d).extractLsb' lo len).toNat =
    (opc.toNat * 2 ^ 32 + a7.toNat * 2 ^ 24 + cmd.toNat * 2 ^ 16 + d.toNat) / 2 ^ lo % 2 ^ len := by
  rw [BitVec.extractLsb'_toNat, packWord_toNat, Nat.shiftRight_eq_div_pow]

@[simp] theorem a7Of_packWord : a7Of (packWord opc a7 cmd d) = a7 := by
  apply BitVec.eq_of_toNat_eq
  rw [a7Of, extractLsb'_packWord_toNat]
  omega

@[simp] theorem cmdOf_packWord : cmdOf (packWord opc a7 cmd d) = cmd := by
  apply BitVec.eq_of_toNat_eq
  rw [cmdOf, extractLsb'_packWord_toNat]
  omega

@[simp] theorem d16Of_packWord : d16Of (packWord opc a7 cmd d) = d := by
  apply BitVec.eq_of_toNat_eq
  rw [d16Of, extractLsb'_packWord_toNat]
  omega

@[simp] theorem d8Of_packWord : d8Of (packWord opc a7 cmd d) = Machine.loByte d := by
  apply BitVec.eq_of_toNat_eq
  rw [d8Of, extractLsb'_packWord_toNat, Machine.loByte, BitVec.extractLsb'_toNat]
  omega

@[simp] theorem modeOf_packWord : modeOf (packWord opc a7 cmd d) = d.getLsbD 0 := by
  rw [← congrArg (BitVec.getLsbD · 0) (d16Of_packWord opc a7 cmd d)]
  simp [modeOf, d16Of]

end Packed

/-! ### The row of a command -/

/-- The row of the opcode map that stands for the command's mnemonic. -/
def Instr.row : Instr → Row
  | .nop => table[0]
  | .setmode _ => table[1]
  | .crcclr => table[2]
  | .crcbyte _ => table[3]
  | .rdw _ _ => table[4]
  | .wrw _ _ _ => table[5]
  | .rdb _ _ => table[6]
  | .wrb _ _ _ => table[7]
  | .rcv _ => table[8]
  | .snd _ _ => table[9]
  | .ara => table[10]

theorem Instr.row_mem_table (i : Instr) : i.row ∈ table := by
  cases i <;> exact List.getElem_mem _

theorem Instr.opcOf_row (i : Instr) : opcOf i.row.pattern = i.opc := by
  cases i <;> simp [Instr.row, table, opcOf, Instr.opc]

theorem opcOf_encode (i : Instr) : opcOf (encode i) = i.opc := by
  cases i <;> exact Laws.OpcodeField.packWord_opc ..

/-- Every row builds commands of its own mnemonic. -/
theorem row_build {r : Row} (hr : r ∈ table) (w : CmdWord) : (r.build w).row = r := by
  simp only [table, List.mem_cons, List.not_mem_nil, or_false] at hr
  rcases hr with rfl | rfl | rfl | rfl | rfl | rfl | rfl | rfl | rfl | rfl | rfl <;> rfl

theorem build_encode (i : Instr) : i.row.build (encode i) = i := by
  cases i with
  | setmode mode => cases mode <;> rfl
  | _ => simp [Instr.row, table, encode]

/-- The word of a command is zero in the must-be-zero fields of its row. -/
theorem zeroFields_encode (i : Instr) : ∀ f ∈ i.row.zeroFields, (encode i).extractLsb' f.1 f.2 = 0#f.2 := by
  cases i with
  | setmode mode => cases mode <;> decide
  | _ =>
    simp [Instr.row, table, Row.zeroFields, opcOf, encode, Instr.opc, ← BitVec.toNat_inj, packWord_toNat,
      Nat.shiftRight_eq_div_pow] <;> omega

theorem decode_encode (i : Instr) : decode (encode i) = .command i := by
  have opc : opcOf (encode i) = opcOf i.row.pattern := (opcOf_encode i).trans i.opcOf_row.symm
  have selected := (selects_iff_zeroFields i.row_mem_table opc).2 (zeroFields_encode i)
  rw [decode_of_selects i.row_mem_table selected, build_encode]

/-- What the decoder's answer says of the word: its opcode, its zeros, and where its operands stand. -/
theorem fields_of_decode {w : CmdWord} {i : Instr} (d : decode w = .command i) :
    opcOf w = i.opc ∧ (∀ f ∈ i.row.zeroFields, w.extractLsb' f.1 f.2 = 0#f.2) ∧ i.row.build w = i := by
  obtain ⟨r, hr, selected, rfl⟩ := decode_command_iff.1 d
  have opc := opc_of_selects hr selected
  rw [← Instr.opcOf_row, row_build hr]
  exact ⟨opc, (selects_iff_zeroFields hr opc).1 selected, rfl⟩

theorem toNat_modeOf (w : CmdWord) : (modeOf w).toNat = w.toNat % 2 := by
  rw [modeOf, BitVec.getLsbD, Nat.testBit_zero]
  rcases Nat.mod_two_eq_zero_or_one w.toNat with h | h <;> simp [h]

/-- The opcode, the must-be-zero fields and the operands are all the bits of a word. -/
theorem encode_of_decode {w : CmdWord} {i : Instr} (d : decode w = .command i) : encode i = w := by
  obtain ⟨opc, zero, build⟩ := fields_of_decode d
  apply BitVec.eq_of_toNat_eq
  cases i with
  | setmode mode =>
    obtain rfl : modeOf w = mode := Instr.setmode.inj build
    simp [Instr.row, table, Row.zeroFields, opcOf, encode, Instr.opc, ← BitVec.toNat_inj, packWord_toNat,
      Nat.shiftRight_eq_div_pow, toNat_modeOf] at opc zero ⊢
    omega
  | _ =>
    simp [Instr.row, table, Row.zeroFields, opcOf, encode, Instr.opc, ← BitVec.toNat_inj, packWord_toNat,
      Nat.shiftRight_eq_div_pow, a7Of, cmdOf, d16Of, d8Of] at opc zero build ⊢
    omega

end Sys2Proof

namespace Sys2Proof.Machine

/-! ### Assembled lines -/

/-- A line of one command is the number of its word when its operands are in range, and an error otherwise (R77). -/
theorem assembleLine_singleton {l : AsmLine} {i : Instr} (one : expandLine l = [i]) {inRange : Prop} [Decidable inRange]
    (wf : l.wf = true ↔ inRange) {n : Nat} (word : inRange → (encode i).toNat = n) :
    assembleLine l = if inRange then .ok [BitVec.ofNat 40 n] else .error .outOfRange := by
  rw [assembleLine, one]
  by_cases h : inRange
  · rw [if_pos (wf.2 h), if_pos h, List.map_singleton, ← word h, BitVec.ofNat_toNat, BitVec.setWidth_eq]
  · rw [if_neg (mt wf.1 h), if_neg h]

/-! ### The obligations -/

/-- Settles O1: each word is looked up in the table. -/
theorem specExampleWordsDecode : Obligations.SpecExampleWordsDecode := by
  unfold Obligations.SpecExampleWordsDecode
  decide

/-- Settles O2: a command's word is selected by the command's row, which reads back its operands. -/
theorem encodedCommandDecodesToItself : Obligations.EncodedCommandDecodesToItself := by
  unfold Obligations.EncodedCommandDecodesToItself
  exact decode_encode

/-- Settles O3: a legal word has no bit outside its opcode, its must-be-zero fields and its operands. -/
theorem legalWordIsTheEncodingOfItsCommand : Obligations.LegalWordIsTheEncodingOfItsCommand := by
  unfold Obligations.LegalWordIsTheEncodingOfItsCommand
  exact fun w i => encode_of_decode

/-- Settles O7: each line of one command by its ranges and by the number of its word. -/
theorem assemblerEncodesOrRefuses : Obligations.AssemblerEncodesOrRefuses := by
  unfold Obligations.AssemblerEncodesOrRefuses
  refine ⟨?illFormed, rfl, rfl, rfl, fun m => ?setmode, fun d => ?crcbyte, fun a c => ?rdw, fun a c d => ?wrw,
    fun a c => ?rdb, fun a c d => ?wrb, fun a => ?rcv, fun a d => ?snd⟩
  case illFormed => exact fun l ill => if_neg (ne_true_of_eq_false ill)
  case setmode =>
    refine assembleLine_singleton rfl ?_ fun bit => ?_
    · exact decide_eq_true_iff
    · interval_cases m <;> rfl
  all_goals
    refine assembleLine_singleton rfl ?_ ?_
    · simp [AsmLine.wf, inA7, inByte, inHalf, and_assoc]
    · rw [encode, packWord_toNat]
      simp [Instr.opc]
      omega

end Sys2Proof.Machine

/-! # Steps and acceptance (20_memory.md, 60_exceptions.md, 70_reset_and_hazards.md)

The command that a step runs, the order of conditions at acceptance (R203), what a dropped word leaves (R241), and what
the commands leave unchanged (10_state.md R33). -/

namespace Sys2Proof.Machine

/-! ### The step that takes a command word -/

theorem decodeTableWord_eq_some_iff {nbits w : Nat} {i : Instr} :
    decodeTableWord nbits w = some i ↔ ∃ v, wordOfBits nbits w = some v ∧ decode v = .command i := by
  unfold decodeTableWord
  cases wordOfBits nbits w with
  | none => simp
  | some v => cases h : decode v <;> simp [h]

section TakesWord

variable {s : State} {w : CmdWord} {acts : List HostAct}

/-- The host's move with a word at the head of its queue is that word at the command port. -/
theorem step_of_command (mover : s.mover = .host) (head : s.hostActs = .command w :: acts) :
    step s = commandPort w s.popAct := by
  rw [step, agentStep_eq_move, mover]
  exact hostMove_popTurn head

theorem step_offerCommand (w : CmdWord) (s : State) : step (offerCommand w s) = commandPort w s := rfl

/-- From the start of a turn that is the host's by nature, none being listed. -/
theorem step_of_command_of_idle (idle : s.phase = .idle) (turns : s.turns = [])
    (head : s.hostActs = .command w :: acts) : step s = commandPort w { s with hostActs := acts } := by
  have popped : s.popAct = { s with hostActs := acts } := by simp [State.popAct, turns, head]
  rw [← popped]
  exact step_of_command (by simp [State.mover, turns, idle, naturalTurn]) head

/-- From a turn listed as the host's. -/
theorem step_of_command_of_turn {ts : List Agent} (turns : s.turns = .host :: ts)
    (head : s.hostActs = .command w :: acts) : step s = commandPort w { s with hostActs := acts, turns := ts } := by
  have popped : s.popAct = { s with hostActs := acts, turns := ts } := by simp [State.popAct, turns, head]
  rw [← popped]
  exact step_of_command (by simp [State.mover, turns]) head

end TakesWord

/-! ### The command port -/

theorem busy_eq_true_iff_phase (s : State) : s.busy = true ↔ s.phase ≠ .idle := by
  rw [← Bool.not_eq_false, ne_eq, busy_eq_false_iff]

section Port

variable {w : CmdWord} {s : State}

theorem commandPort_busy (busy : s.busy = true) : commandPort w s = .next (dropWord s) := by
  unfold commandPort
  cases decode w with
  | command i => exact (exec_eq_accept i s).trans (accept_busy _ busy)
  | illegal why => exact accept_busy _ busy

theorem exec_busy {i : Instr} (busy : s.busy = true) : exec i s = .next (dropWord s) :=
  (exec_eq_accept i s).trans (accept_busy _ busy)

/-- A word that is no command ends as ILLEGAL, once accepted (R204). -/
theorem commandPort_of_no_command (idle : s.phase = .idle) (none : ∀ i, decode w ≠ .command i) :
    commandPort w s = .next (illegalWord s) := by
  cases d : decode w with
  | command i => exact absurd d (none i)
  | illegal why => exact commandPort_illegal d idle

theorem commandPort_of_opc_setmode (opc : opcOf w = 0x01) (idle : s.phase = .idle) :
    commandPort w s = if w.extractLsb' 1 31 = 0 then exec (.setmode (modeOf w)) s else .next (illegalWord s) :=
  commandPort_of_zeroFields_singleton (r := table[1]) (List.getElem_mem _) rfl (opc.trans (by decide)) rfl idle

end Port

/-! ### The commands, by what they write -/

section Commands

variable {i : Instr} {s s' : State}

theorem exec_setmode_idle (mode : Bool) (idle : s.phase = .idle) :
    exec (.setmode mode) s = .next (report .complete { s with pecEn := mode }) :=
  (exec_eq_accept _ s).trans (accept_idle _ idle)

/-- A local command is dropped, or ends COMPLETE and writes at most PEC_EN (SETMODE) or CRC (CRCCLR, CRCBYTE). -/
theorem exec_local_cases (loc : i.isBus = false) (h : exec i s = .next s') :
    (s.busy = true ∧ s' = dropWord s) ∨
    (s.phase = .idle ∧ ∃ pecEn crc, s' = report .complete { s with pecEn := pecEn, crc := crc } ∧
      ((∀ mode, i ≠ .setmode mode) → pecEn = s.pecEn) ∧
      (i ≠ .crcclr → (∀ d8, i ≠ .crcbyte d8) → crc = s.crc)) := by
  rw [exec_eq_accept] at h
  refine (accept_cases h).imp_right fun ⟨idle, body⟩ => ⟨idle, ?_⟩
  cases i with
  | nop => exact ⟨s.pecEn, s.crc, body, fun _ => rfl, fun _ _ => rfl⟩
  | setmode mode => exact ⟨mode, s.crc, body, fun other => absurd rfl (other mode), fun _ _ => rfl⟩
  | crcclr => exact ⟨s.pecEn, s.params.crcInit, body, fun _ => rfl, fun other => absurd rfl other⟩
  | crcbyte d8 => exact ⟨s.pecEn, crc8Step s.crc d8, body, fun _ => rfl, fun _ other => absurd rfl (other d8)⟩
  | rdw | wrw | rdb | wrb | rcv | snd | ara => cases loc

/-- A bus command is dropped, refused while OFFLINE = 1, or issued. -/
theorem exec_bus_cases (bus : i.isBus = true) (h : exec i s = .next s') :
    (s.busy = true ∧ s' = dropWord s) ∨
    (s.phase = .idle ∧ s.offline = true ∧ s' = offlineRefusal s) ∨
    (s.phase = .idle ∧ s.offline = false ∧ ∃ op a7 cmd d16, s' = issue op a7 cmd d16 s) := by
  obtain ⟨⟨op, a7, cmd, d16⟩, parts⟩ := Option.isSome_iff_exists.1 bus
  cases busy : s.busy with
  | true =>
    rw [exec_busy busy] at h
    cases h
    exact .inl ⟨rfl, rfl⟩
  | false =>
    have idle := (busy_eq_false_iff s).1 busy
    rw [exec_busParts parts idle] at h
    cases h
    cases off : s.offline with
    | true => exact .inr (.inl ⟨idle, rfl, busCommand_offline op a7 cmd d16 off⟩)
    | false => exact .inr (.inr ⟨idle, rfl, op, a7, cmd, d16, busCommand_online op a7 cmd d16 off⟩)

/-- An accepted command that is not refused leaves OVR alone and ends COMPLETE or, just issued, NONE. -/
theorem exec_accepted (idle : s.phase = .idle) (runs : s.offline = false ∨ i.isBus = false)
    (h : exec i s = .next s') : s'.ovr = s.ovr ∧ (s'.outcome = .none ∨ s'.outcome = .complete) := by
  have not_busy := busy_ne_true_of_idle idle
  cases bus : i.isBus with
  | false =>
    rcases exec_local_cases bus h with ⟨busy, -⟩ | ⟨-, pecEn, crc, rfl, -⟩
    · exact absurd busy not_busy
    · exact ⟨rfl, .inr rfl⟩
  | true =>
    have online : s.offline = false := runs.resolve_right (by simp [bus])
    rcases exec_bus_cases bus h with ⟨busy, -⟩ | ⟨-, offline, -⟩ | ⟨-, -, op, a7, cmd, d16, rfl⟩
    · exact absurd busy not_busy
    · rw [online] at offline
      cases offline
    · exact ⟨rfl, .inl rfl⟩

/-- Every command answers: there is no trap (R202). -/
theorem exec_answers (i : Instr) (s : State) : ∃ s', exec i s = .next s' :=
  ⟨_, exec_eq_accept i s⟩

end Commands

/-! ### OVR and its record over a step (R241) -/

section Step

variable {s s' : State}

/-- A command word sets OVR or leaves it. -/
theorem CommandEffect.ovr_sticky {w : CmdWord} (e : CommandEffect w s s') (ovr : s.ovr = true) : s'.ovr = true := by
  cases e with
  | dropped => rfl
  | _ => exact ovr

theorem CommandEffect.hostFault_sticky {w : CmdWord} (e : CommandEffect w s s') (fault : s.hostFault = true) :
    s'.hostFault = true := by
  cases e with
  | dropped => rfl
  | _ => exact fault

theorem respond_ovr (resp : Response) {t : Txn} (h : s.phase = .awaitingResponse t) :
    (respond resp s).ovr = s.ovr := by
  obtain ⟨o, rv, an, rd, e, -⟩ := respond_cases resp h
  rw [e]

theorem respond_hostFault (resp : Response) {t : Txn} (h : s.phase = .awaitingResponse t) :
    (respond resp s).hostFault = s.hostFault := by
  obtain ⟨o, rv, an, rd, e, -⟩ := respond_cases resp h
  rw [e]

theorem step_ovr_sticky (h : step s = .next s') (ovr : s.ovr = true) : s'.ovr = true ∨ s.resetsNow := by
  cases step_cases h with
  | waits => exact .inl ovr
  | command w rest ha now s' e => exact .inl (e.ovr_sticky ovr)
  | reads index rest ha now => exact .inl ovr
  | reset rest ha now => exact .inr now
  | transmits t ph mv => exact .inl ovr
  | responds t ph mv resp rest hb => exact .inl ((respond_ovr resp (s := s.popResponse) ph).trans ovr)

/-- Reset too leaves the record of a broken duty. -/
theorem step_hostFault_sticky (h : step s = .next s') (fault : s.hostFault = true) : s'.hostFault = true := by
  cases step_cases h with
  | waits => exact fault
  | command w rest ha now s' e => exact e.hostFault_sticky fault
  | reads index rest ha now => exact fault
  | reset rest ha now => exact fault
  | transmits t ph mv => exact fault
  | responds t ph mv resp rest hb => exact (respond_hostFault resp (s := s.popResponse) ph).trans fault

end Step

/-! ### The obligations -/

/-- Settles O8: a step of the host with a word at hand is the command port, and the port runs the decoded command. -/
theorem stepRunsTheDecodedCommand : Obligations.StepRunsTheDecodedCommand := by
  unfold Obligations.StepRunsTheDecodedCommand
  refine ⟨fun nbits w s i d => ?offered, fun w s i acts ts d head turns => ?listed,
    fun w s i acts d head turns idle => ?natural⟩
  case offered =>
    obtain ⟨v, word, d⟩ := decodeTableWord_eq_some_iff.1 d
    rw [State.withFetchWord, offerTableWord, word]
    exact (step_offerCommand v s).trans (commandPort_command d s)
  case listed => rw [step_of_command_of_turn turns head, commandPort_command d]
  case natural => rw [step_of_command_of_idle idle turns head, commandPort_command d]

/-- Settles O9: `step_effect` gives the next state of every state. -/
theorem everyStepAnswersNext : Obligations.EveryStepAnswersNext := by
  unfold Obligations.EveryStepAnswersNext
  exact fun s => (step_effect s).imp fun _ => And.left

/-- Settles O10: the port's answer under each premise, in the order of R203 (a). -/
theorem acceptancePriority : Obligations.AcceptancePriority := by
  unfold Obligations.AcceptancePriority
  refine fun w s => ⟨commandPort_busy, fun free none => ?illegal, fun free off i d bus => ?offline,
    fun free i d runs => ?command⟩
  all_goals have idle := (busy_eq_false_iff s).1 free
  case illegal => exact commandPort_of_no_command idle none
  case offline => exact (commandPort_command d s).trans (exec_bus_offline bus idle off)
  case command =>
    obtain ⟨s', answer⟩ := exec_answers i s
    exact ⟨commandPort_command d s, s', answer, exec_accepted idle runs answer⟩

/-- Settles O11: the port drops every word while BUSY = 1, and no step clears what that sets, but for reset the OVR. -/
theorem busyWordIsDroppedAndRecorded : Obligations.BusyWordIsDroppedAndRecorded := by
  unfold Obligations.BusyWordIsDroppedAndRecorded
  exact ⟨fun w s busy => commandPort_busy ((busy_eq_true_iff_phase s).2 busy), fun s s' => step_ovr_sticky,
    fun s s' => step_hostFault_sticky⟩

/-- Settles O15: the accepted SETMODE, its row's must-be-zero field, and the two places where PEC_EN is read. -/
theorem setmodeBindsPecEn : Obligations.SetmodeBindsPecEn := by
  unfold Obligations.SetmodeBindsPecEn
  refine ⟨fun mode s => exec_setmode_idle mode, fun w s idle opc => ?word, fun s => ⟨?config, statusWord_pecEn s⟩,
    fun mode s busy => exec_busy ((busy_eq_true_iff_phase s).2 busy)⟩
  case word =>
    rw [commandPort_of_opc_setmode opc idle, exec_setmode_idle _ idle]
    rfl
  case config =>
    rw [configWord]
    cases s.pecEn <;> rfl

/-- Settles O16: a local command is dropped, or writes no more than `exec_local_cases` says. -/
theorem localCommandsFrame : Obligations.LocalCommandsFrame := by
  unfold Obligations.LocalCommandsFrame
  intro i s s' loc h
  rcases exec_local_cases loc h with ⟨busy, rfl⟩ | ⟨idle, pecEn, crc, rfl, keepsMode, keepsCrc⟩
  · simp [(busy_eq_true_iff_phase s).1 busy]
  · exact ⟨rfl, rfl, rfl, rfl, rfl, rfl, rfl, rfl, rfl, rfl, rfl, rfl, rfl, keepsMode, keepsCrc,
      fun _ => ⟨rfl, rfl⟩, fun busy => absurd idle busy⟩

/-- Settles O29: a bus command is dropped, refused or issued, and none of the three writes what is listed. -/
theorem busCommandsFrame : Obligations.BusCommandsFrame := by
  unfold Obligations.BusCommandsFrame
  intro i s s' bus h
  rcases exec_bus_cases bus h with ⟨busy, rfl⟩ | ⟨idle, offline, rfl⟩ | ⟨idle, online, op, a7, cmd, d16, rfl⟩
  · simp [(busy_eq_true_iff_phase s).1 busy]
  · simp [idle]
  · simp [idle, online]

end Sys2Proof.Machine

/-! # The checksum (40_control_and_crc.md)

One shift-and-compare cycle is one division step by x^8+x^2+x+1 (R101 (f)), and it loses nothing: the rest of R101 is
read off its injectivity. -/

namespace Sys2Proof.Machine

/-! ### One cycle -/

/-- The bit shifted out of the register decides the subtraction, and shows in bit 0 of the polynomial subtracted. -/
theorem crcShift_getLsbD_zero (c : Byte) : (crcShift c).getLsbD 0 = c.getLsbD 7 := by
  unfold crcShift
  cases out : c.getLsbD 7 <;> simp

theorem crcShift_eq_xor (c : Byte) : crcShift c = (c <<< 1) ^^^ (if c.getLsbD 7 then 0x07 else 0) := by
  unfold crcShift
  split_ifs <;> simp

theorem crcShift_injective : Function.Injective crcShift := by
  intro a b h
  have top : a.getLsbD 7 = b.getLsbD 7 := by rw [← crcShift_getLsbD_zero, h, crcShift_getLsbD_zero]
  have low : a <<< 1 = b <<< 1 := by
    rw [crcShift_eq_xor, crcShift_eq_xor, top] at h
    exact (BitVec.xor_left_inj _).1 h
  apply BitVec.eq_of_getLsbD_eq
  intro i hi
  by_cases last : i = 7
  · rw [last, top]
  · have bit := congrArg (BitVec.getLsbD · (i + 1)) low
    simpa [hi, show i + 1 < 8 by omega] using bit

/-- One cycle is the division step at place 0: the bit shifted out is the coefficient of x^8. -/
theorem reduceAt_zero_shiftLeft (c : Byte) : reduceAt 0 (c.setWidth 16 <<< 1) = (crcShift c).setWidth 16 := by
  revert c
  decide

/-- The division step is the same at every place. -/
theorem reduceAt_shiftLeft (v : BitVec 16) {k : Nat} (hk : k < 8) : reduceAt k (v <<< k) = reduceAt 0 v <<< k := by
  have coefficient : (v <<< k).getLsbD (8 + k) = v.getLsbD 8 := by
    rw [BitVec.getLsbD_shiftLeft, Nat.add_sub_cancel]
    simp [show 8 + k < 16 by omega]
  rw [reduceAt, reduceAt, coefficient]
  split_ifs <;> simp [BitVec.shiftLeft_xor_distrib]

theorem reduceAt_register (c : Byte) {k : Nat} (hk : k < 8) :
    reduceAt k (c.setWidth 16 <<< (k + 1)) = (crcShift c).setWidth 16 <<< k := by
  rw [Nat.add_comm, BitVec.shiftLeft_add, reduceAt_shiftLeft _ hk, reduceAt_zero_shiftLeft]

/-- Eight cycles are the whole division. -/
theorem iterate_crcShift_eq_timesX8Mod (b : Byte) : crcShift^[8] b = timesX8Mod b := by
  simp [timesX8Mod, reduceAt_register]

/-! ### Lists of bytes -/

theorem crc8Step_injective_byte (c : Byte) : Function.Injective (crc8Step c) :=
  fun _ _ h => (BitVec.xor_right_inj c).1 (crcShift_injective.iterate 8 h)

theorem crc8Step_injective_register (b : Byte) : Function.Injective (crc8Step · b) :=
  fun _ _ h => (BitVec.xor_left_inj b).1 (crcShift_injective.iterate 8 h)

theorem crc8_injective_init (bs : List Byte) : Function.Injective (crc8 · bs) := by
  induction bs with
  | nil => exact fun _ _ h => h
  | cons b bs ih => exact fun _ _ h => crc8Step_injective_register b (ih h)

theorem crc8_append (init : Byte) (as bs : List Byte) : crc8 init (as ++ bs) = crc8 (crc8 init as) bs :=
  List.foldl_append

/-- The registers differ after the changed byte, and every byte after it keeps them apart. -/
theorem crc8_ne_of_byte_ne (init : Byte) {b b' : Byte} (before after : List Byte) (h : b ≠ b') :
    crc8 init (before ++ b :: after) ≠ crc8 init (before ++ b' :: after) := by
  rw [crc8_append, crc8_append, crc8_cons, crc8_cons]
  exact fun same => h (crc8Step_injective_byte _ (crc8_injective_init after same))

theorem flipped_bit_ne (b : Byte) {k : Nat} (hk : k < 8) : b ≠ b ^^^ (1#8 <<< k) := by
  intro same
  have bit := congrArg (BitVec.getLsbD · k) same
  simp [hk] at bit

theorem crc8_zero_replicate_zero (n : Nat) : crc8 0x00 (List.replicate n 0x00) = 0x00 := by
  induction n with
  | zero => rfl
  | succ n ih => rw [List.replicate_succ, crc8_cons, crc8Step_self, ih]

/-! ### The obligations -/

/-- Settles O17: the eight cycles of a byte step are the eight steps of the long division. -/
theorem crcStepIsPolynomialRemainder : Obligations.CrcStepIsPolynomialRemainder := by
  unfold Obligations.CrcStepIsPolynomialRemainder
  exact fun c b => iterate_crcShift_eq_timesX8Mod (c ^^^ b)

/-- Settles O18: the checksum is a fold. -/
theorem crcOfConcatenation : Obligations.CrcOfConcatenation := by
  unfold Obligations.CrcOfConcatenation
  exact crc8_append

/-- Settles O19: a byte step is injective in the byte and in the register; a flipped bit is a changed byte. -/
theorem crcSeesEveryChangeOfOneByte : Obligations.CrcSeesEveryChangeOfOneByte := by
  unfold Obligations.CrcSeesEveryChangeOfOneByte
  exact ⟨fun init b b' before after => crc8_ne_of_byte_ne init before after,
    fun init b before after k hk => crc8_ne_of_byte_ne init before after (flipped_bit_ne b hk)⟩

/-- Settles O20: the last byte folds the register into itself, and a zero register folds zeros into zero. -/
theorem crcSelfCheckAndZeros : Obligations.CrcSelfCheckAndZeros := by
  unfold Obligations.CrcSelfCheckAndZeros
  refine ⟨fun bs => ?selfCheck, crc8_zero_replicate_zero⟩
  rw [crc8_append]
  exact crc8Step_self _

set_option maxRecDepth 4000 in
/-- Settles O21: the checksums of four short lists, computed. -/
theorem crcReferenceValues : Obligations.CrcReferenceValues := by
  unfold Obligations.CrcReferenceValues
  decide

end Sys2Proof.Machine

/-! # Lines and their issue (41_frame_enumerator.md)

The symbols of each operation written out (R136 to R142), what they send and how they are spelled (R133, R134), the
whole next state of an issue (R131), and the transmission (R135). -/

namespace Sys2Proof.Machine

/-! ### Address bytes (R51) -/

section Address

variable (a7 : Addr7)

theorem readAddr_eq_append : readAddr a7 = a7 ++ 1#1 := by
  rw [BitVec.append_def, BitVec.shiftLeftZeroExtend_eq, readAddr]
  rfl

theorem writeAddr_toNat : (writeAddr a7).toNat = 2 * a7.toNat := by
  have := a7.isLt
  rw [writeAddr, BitVec.toNat_shiftLeft, BitVec.toNat_setWidth, Nat.shiftLeft_eq]
  omega

theorem readAddr_toNat : (readAddr a7).toNat = 2 * a7.toNat + 1 := by
  rw [readAddr_eq_append, BitVec.toNat_append, ← Nat.shiftLeft_add_eq_or_of_lt (by decide), Nat.shiftLeft_eq,
    Nat.mul_comm]
  rfl

end Address

/-! ### Spelling (R134) -/

theorem spell_cons (t : TokenMap) (s : Symbol) (ss : List Symbol) : spell t (s :: ss) = tok t s ++ spell t ss := by
  simp [spell]

theorem spell_append (t : TokenMap) (xs ys : List Symbol) : spell t (xs ++ ys) = xs.flatMap (tok t) ++ spell t ys := by
  simp [spell]

/-! ### The symbols between start and stop -/

/-- The symbols of a transaction but for its first and its last, which are START and STOP. -/
def bodySymbols (p : Params) (op : BusOp) (a7 : Addr7) (cmd : Byte) (d16 : Half) (pec : Bool) : List Symbol :=
  match op with
  | .rdw | .rdb => [.send (writeAddr a7), .send cmd, .rstart, .send (readAddr a7)] ++ recvs (nrequested op pec)
  | .rcv => [.send (readAddr a7)] ++ recvs (nrequested op pec)
  | .ara => [.send (araReadAddr p)] ++ recvs (nrequested op pec)
  | .wrw | .wrb | .snd => (covered p op a7 cmd d16).map .send ++ pecSend p pec (covered p op a7 cmd d16)

section Operation

variable (p : Params) (op : BusOp) (a7 : Addr7) (cmd : Byte) (d16 : Half) (pec : Bool)

theorem symbols_eq_body :
    symbols p op a7 cmd d16 pec = .start :: (bodySymbols p op a7 cmd d16 pec ++ [.stop]) := by
  cases op <;> rfl

/-! ### START, STOP and repeated start in a body -/

theorem count_recvs_of_ne {x : Symbol} (notRecv : x ≠ .recv) (notLast : x ≠ .recvLast) (m : Nat) :
    (recvs m).count x = 0 := by
  simp [recvs, List.count_replicate, notRecv.symm, notLast.symm]

theorem count_pecSend_of_not_send {x : Symbol} (notSend : ∀ b, x ≠ .send b) (cb : List Byte) :
    (pecSend p pec cb).count x = 0 := by
  cases pec <;> simp [pecSend, fun b => (notSend b).symm]

theorem count_start_bodySymbols : (bodySymbols p op a7 cmd d16 pec).count .start = 0 := by
  cases op <;> simp [bodySymbols, covered, count_recvs_of_ne, count_pecSend_of_not_send]

theorem count_stop_bodySymbols : (bodySymbols p op a7 cmd d16 pec).count .stop = 0 := by
  cases op <;> simp [bodySymbols, covered, count_recvs_of_ne, count_pecSend_of_not_send]

theorem count_rstart_bodySymbols :
    (bodySymbols p op a7 cmd d16 pec).count .rstart = if op = .rdw ∨ op = .rdb then 1 else 0 := by
  cases op <;> simp [bodySymbols, covered, count_recvs_of_ne, count_pecSend_of_not_send]

/-! ### The bytes sent (R133) -/

theorem sentBytes_append (xs ys : List Symbol) : sentBytes (xs ++ ys) = sentBytes xs ++ sentBytes ys :=
  List.filterMap_append

theorem sentBytes_recvs (m : Nat) : sentBytes (recvs m) = [] := by
  simp [sentBytes, recvs]

theorem sentBytes_pecSend (cb : List Byte) :
    sentBytes (pecSend p pec cb) = if pec then [crc8 p.crcInit cb] else [] := by
  cases pec <;> rfl

theorem sentBytes_map_send (bs : List Byte) : sentBytes (bs.map .send) = bs := by
  simp [sentBytes, List.filterMap_map]

theorem sentBytes_symbols :
    sentBytes (symbols p op a7 cmd d16 pec) = sentBytes (bodySymbols p op a7 cmd d16 pec) := by
  rw [symbols_eq_body, ← List.singleton_append, sentBytes_append, sentBytes_append]
  exact List.append_nil _

variable {op} in
theorem sentBytes_symbols_of_write (write : op.isWrite = true) : sentBytes (symbols p op a7 cmd d16 pec) =
    covered p op a7 cmd d16 ++ (if pec then [crc8 p.crcInit (covered p op a7 cmd d16)] else []) := by
  have body : bodySymbols p op a7 cmd d16 pec =
      (covered p op a7 cmd d16).map .send ++ pecSend p pec (covered p op a7 cmd d16) := by
    cases op with
    | wrw | wrb | snd => rfl
    | rdw | rdb | rcv | ara => cases write
  rw [sentBytes_symbols, body, sentBytes_append, sentBytes_map_send, sentBytes_pecSend]

/-- A read with a command code sends its read address, whether the PEC covers it or not (D10). -/
theorem coveredRead_append_readAddr : [writeAddr a7, cmd, readAddr a7] =
    coveredRead p a7 cmd ++ if p.pecReadCoverage = .writeAddrOnly then [readAddr a7] else [] := by
  unfold coveredRead
  cases p.pecReadCoverage <;> rfl

variable {op} in
theorem sentBytes_symbols_of_read (read : op.isWrite = false) : sentBytes (symbols p op a7 cmd d16 pec) =
    covered p op a7 cmd d16 ++
      (if p.pecReadCoverage = .writeAddrOnly ∧ (op = .rdw ∨ op = .rdb) then [readAddr a7] else []) := by
  rw [sentBytes_symbols]
  cases op with
  | rdw | rdb =>
    rw [bodySymbols, sentBytes_append, sentBytes_recvs]
    simpa [sentBytes, covered] using coveredRead_append_readAddr p a7 cmd
  | rcv | ara =>
    rw [bodySymbols, sentBytes_append, sentBytes_recvs]
    simp [sentBytes, covered]
  | wrw | wrb | snd => cases read

end Operation

/-! ### Issue (R131) -/

/-- The next state of a bus command accepted online, with its covered bytes, requests and symbols written out. -/
theorem exec_issued {i : Instr} {op : BusOp} {a7 : Addr7} {cmd : Byte} {d16 : Half} {s : State}
    (parts : i.busParts = some (op, a7, cmd, d16)) (idle : s.phase = .idle) (online : s.offline = false)
    {cb : List Byte} (bytes : covered s.params op a7 cmd d16 = cb) {m : Nat} (requests : nrequested op s.pecEn = m)
    {ss : List Symbol} (shape : symbols s.params op a7 cmd d16 s.pecEn = ss) :
    exec i s = .next { s with
      rvalid := false, araNone := false, outcome := .none, err := 0x00, crc := crc8 s.params.crcInit cb,
      phase := .framed {
        op := op, a7 := a7, cmd := cmd, d16 := d16, pec := s.pecEn, cb := cb, n := ndata op, m := m,
        line := spell s.params.tokens ss } } := by
  rw [exec_busParts parts idle, busCommand_online op a7 cmd d16 online, ← bytes, ← requests, ← shape]
  rfl

section Issue

variable (p : Params) (a7 : Addr7) (cmd : Byte) (pec : Bool)

theorem coveredRead_eq_ite : coveredRead p a7 cmd =
    if p.pecReadCoverage = .both then [a7 ++ 0#1, cmd, a7 ++ 1#1] else [a7 ++ 0#1, cmd] := by
  rw [coveredRead, writeAddr_eq_append, readAddr_eq_append]
  cases p.pecReadCoverage <;> rfl

theorem covered_wrb (lo : Byte) : covered p .wrb a7 cmd (0#8 ++ lo) = [a7 ++ 0#1, cmd, lo] := by
  rw [covered, writeAddr_eq_append, loByte_append]

theorem covered_snd (lo : Byte) : covered p .snd a7 cmd (0#8 ++ lo) = [a7 ++ 0#1, lo] := by
  rw [covered, writeAddr_eq_append, loByte_append]

theorem recvs_word : recvs (nrequested .rdw pec) = if pec then [.recv, .recv, .recvLast] else [.recv, .recvLast] := by
  cases pec <;> rfl

theorem recvs_byte {op : BusOp} (one : ndata op = 1) :
    recvs (nrequested op pec) = if pec then [.recv, .recvLast] else [.recvLast] := by
  rw [nrequested, one]
  cases pec <;> rfl

theorem nrequested_word : nrequested .rdw pec = if pec then 3 else 2 := by
  cases pec <;> rfl

theorem nrequested_byte {op : BusOp} (one : ndata op = 1) : nrequested op pec = if pec then 2 else 1 := by
  rw [nrequested, one]
  cases pec <;> rfl

end Issue

/-! ### Transmission (R135) -/

section Turns

variable {s : State}

theorem step_of_no_turns (turns : s.turns = []) : step s = move (naturalTurn s.phase) s := by
  simp [step, agentStep, turns]

theorem step_of_turn {a : Agent} {ts : List Agent} (turns : s.turns = a :: ts) :
    step s = move a { s with turns := ts } := by
  simp [step, agentStep, turns]

theorem transmit_of_framed {t : Txn} (framed : s.phase = .framed t) :
    transmit s = { s with phase := .awaitingResponse t, txlog := s.txlog ++ [t.line] } := by
  simp [transmit, framed]

theorem move_block_of_framed {t : Txn} (framed : s.phase = .framed t) :
    move .block s = .next { s with phase := .awaitingResponse t, txlog := s.txlog ++ [t.line] } :=
  congrArg _ (transmit_of_framed framed)

theorem step_of_framed {t : Txn} (framed : s.phase = .framed t) (turns : s.turns = []) :
    step s = .next { s with phase := .awaitingResponse t, txlog := s.txlog ++ [t.line] } := by
  rw [step_of_no_turns turns, framed]
  exact move_block_of_framed framed

end Turns

/-! ### The obligations -/

/-- Settles O23: an address byte is the address above its direction bit. -/
theorem addressBytes : Obligations.AddressBytes := by
  unfold Obligations.AddressBytes
  exact fun a7 => ⟨writeAddr_eq_append a7, readAddr_eq_append a7, writeAddr_toNat a7, readAddr_toNat a7⟩

/-- Settles O25: the issue of a read with a command code, for words and for bytes. -/
theorem readCommandsAreIssued : Obligations.ReadCommandsAreIssued := by
  unfold Obligations.ReadCommandsAreIssued
  rintro a7 cmd s cb idle online rfl
  refine ⟨exec_issued (op := .rdw) (d16 := 0) rfl idle online (coveredRead_eq_ite _ a7 cmd) (nrequested_word _) ?word,
    exec_issued (op := .rdb) (d16 := 0) rfl idle online (coveredRead_eq_ite _ a7 cmd) (nrequested_byte _ rfl) ?byte⟩
  case word => rw [symbols, readSymbols, recvs_word, writeAddr_eq_append, readAddr_eq_append]
  case byte => rw [symbols, readSymbols, recvs_byte _ rfl, writeAddr_eq_append, readAddr_eq_append]

/-- Settles O26: the issue of a read without a command code. -/
theorem receiveCommandsAreIssued : Obligations.ReceiveCommandsAreIssued := by
  unfold Obligations.ReceiveCommandsAreIssued
  intro a7 s idle online
  refine ⟨exec_issued rfl idle online ?rcvBytes (nrequested_byte _ rfl) ?rcv,
    exec_issued rfl idle online ?araBytes (nrequested_byte _ rfl) ?ara⟩
  case rcvBytes => rw [covered, readAddr_eq_append]
  case rcv => rw [symbols, recvs_byte _ rfl, readAddr_eq_append]
  case araBytes => rw [covered, araReadAddr, readAddr_eq_append]
  case ara => rw [symbols, recvs_byte _ rfl, araReadAddr, readAddr_eq_append]

/-- Settles O27: the issue of the three writes, whose PEC follows their covered bytes. -/
theorem writeCommandsAreIssued : Obligations.WriteCommandsAreIssued := by
  unfold Obligations.WriteCommandsAreIssued
  intro a7 cmd hi lo s idle online
  refine ⟨exec_issued (op := .wrw) rfl idle online (covered_wrw _ _ _ _ _) (nrequested_of_write _ rfl) ?wrw,
    exec_issued (op := .wrb) (d16 := 0#8 ++ lo) ?wrbParts idle online (covered_wrb _ _ _ _)
      (nrequested_of_write _ rfl) ?wrb,
    exec_issued (op := .snd) (d16 := 0#8 ++ lo) ?sndParts idle online (covered_snd _ _ _ _)
      (nrequested_of_write _ rfl) ?snd⟩
  case wrw =>
    rw [symbols_eq_body, bodySymbols, covered_wrw]
    rfl
  case wrbParts => rw [Instr.busParts, setWidth_eq_append]
  case wrb =>
    rw [symbols_eq_body, bodySymbols, covered_wrb]
    rfl
  case sndParts => rw [Instr.busParts, setWidth_eq_append]
  case snd =>
    rw [symbols_eq_body, bodySymbols, covered_snd]
    rfl

/-- Settles O31: `bodySymbols` is what stands between the start and the stop. -/
theorem lineShape : Obligations.LineShape := by
  unfold Obligations.LineShape
  refine fun p op a7 cmd d16 pec => ⟨⟨bodySymbols p op a7 cmd d16 pec, symbols_eq_body p op a7 cmd d16 pec,
    count_start_bodySymbols p op a7 cmd d16 pec, count_stop_bodySymbols p op a7 cmd d16 pec,
    count_rstart_bodySymbols p op a7 cmd d16 pec⟩, (bodySymbols p op a7 cmd d16 pec).flatMap (tok p.tokens), ?line⟩
  rw [capture, symbols_eq_body, spell_cons, spell_append, spell_cons]
  simp [tok, spell]

/-- Settles O32: the spelling is symbol by symbol, and the end of line is spelled last. -/
theorem spellingOfSymbols : Obligations.SpellingOfSymbols := by
  unfold Obligations.SpellingOfSymbols
  exact fun t b s ss => ⟨rfl, spell_cons t s ss, rfl, rfl, rfl, rfl, rfl, rfl⟩

/-- Settles O33: a write sends its covered bytes and its PEC; a read's requests send nothing. -/
theorem coveredBytesAreTheBytesSent : Obligations.CoveredBytesAreTheBytesSent := by
  unfold Obligations.CoveredBytesAreTheBytesSent
  intro p op a7 cmd d16 pec
  rw [← readAddr_eq_append]
  exact ⟨sentBytes_symbols_of_write p a7 cmd d16 pec, sentBytes_symbols_of_read p a7 cmd d16 pec⟩

/-- Settles O34: the block's move in FRAMED, and the two ways in which the turn is the block's. -/
theorem transmitEmitsTheLine : Obligations.TransmitEmitsTheLine := by
  unfold Obligations.TransmitEmitsTheLine
  refine fun s t framed => ⟨move_block_of_framed framed, step_of_framed framed, fun ts turns => ?listed⟩
  exact (step_of_turn turns).trans (move_block_of_framed (s := { s with turns := ts }) framed)

end Sys2Proof.Machine

/-! # Phases and RDATA over a step (10_state.md)

Who leads out of each phase (R30), who writes RDATA (R33), and why its content is nobody's to learn while RVALID = 0
(R26). -/

namespace Sys2Proof.Machine

/-! ### PHASE over a step (R30) -/

section Phase

variable {s s' : State}

/-- A command word moves PHASE only by the issue of its own bus command. -/
theorem CommandEffect.phase_cases {w : CmdWord} (e : CommandEffect w s s') :
    s'.phase = s.phase ∨ (s.phase = .idle ∧ ∃ i op a7 cmd d16, decode w = .command i ∧
      i.busParts = some (op, a7, cmd, d16) ∧ s.offline = false ∧
      s'.phase = .framed (capture s.params op a7 cmd d16 s.pecEn)) := by
  cases e with
  | issued idle i d online op a7 cmd d16 parts => exact .inr ⟨idle, i, op, a7, cmd, d16, d, parts, online, rfl⟩
  | _ => exact .inl rfl

theorem respond_outcome_ne_none (resp : Response) {t : Txn} (h : s.phase = .awaitingResponse t) :
    (respond resp s).outcome ≠ .none := by
  obtain ⟨o, rv, an, rd, e, reported, -⟩ := respond_cases resp h
  rw [e]
  exact reported

theorem respond_rxlog (resp : Response) {t : Txn} (h : s.phase = .awaitingResponse t) :
    (respond resp s).rxlog = s.rxlog ++ [resp] := by
  obtain ⟨o, rv, an, rd, e, -⟩ := respond_cases resp h
  rw [e]

/-- All that a step can do to PHASE, with what else the rule of that transition says. -/
theorem step_phase_cases (h : step s = .next s') :
    s'.phase = s.phase ∨ (s'.phase = .idle ∧ s.resetsNow) ∨
    (s.phase = .idle ∧ ∃ w i op a7 cmd d16, s.actNow = some (.command w) ∧ decode w = .command i ∧
      i.busParts = some (op, a7, cmd, d16) ∧ s.offline = false ∧
      s'.phase = .framed (capture s.params op a7 cmd d16 s.pecEn)) ∨
    (∃ t, s.phase = .framed t ∧ s'.phase = .awaitingResponse t ∧ s.mover = .block ∧
      s'.txlog = s.txlog ++ [t.line]) ∨
    (∃ t, s.phase = .awaitingResponse t ∧ s'.phase = .idle ∧ s.mover = .bridge ∧ s'.outcome ≠ .none ∧
      ∃ resp, s.bridge.head? = some resp ∧ s'.rxlog = s.rxlog ++ [resp]) := by
  cases step_cases h with
  | waits => exact .inl rfl
  | command w rest ha now s' e =>
    rcases e.phase_cases with kept | ⟨idle, i, op, a7, cmd, d16, d, parts, online, issued⟩
    · exact .inl kept
    · exact .inr (.inr (.inl ⟨idle, w, i, op, a7, cmd, d16, now, d, parts, online, issued⟩))
  | reads index rest ha now => exact .inl rfl
  | reset rest ha now => exact .inr (.inl ⟨rfl, now⟩)
  | transmits t ph mv => exact .inr (.inr (.inr (.inl ⟨t, ph, rfl, mv, rfl⟩)))
  | responds t ph mv resp rest hb =>
    have awaiting : s.popResponse.phase = .awaitingResponse t := ph
    exact .inr (.inr (.inr (.inr ⟨t, ph, respond_phase resp awaiting, mv, respond_outcome_ne_none resp awaiting, resp,
      by rw [hb, List.head?_cons], respond_rxlog resp awaiting⟩)))

end Phase

/-! ### RDATA over a step (R33) -/

section Rdata

variable {s s' : State}

theorem CommandEffect.rdata_eq {w : CmdWord} (e : CommandEffect w s s') : s'.rdata = s.rdata := by
  cases e <;> rfl

theorem isWrite_eq_false_of_readValue {op : BusOp} {data : List Byte} {v : Half} (h : readValue op data = some v) :
    op.isWrite = false := by
  refine Bool.eq_false_iff.2 fun write => ?_
  rw [readValue_of_write write] at h
  cases h

/-- A response writes RDATA only with the value of a completed read. -/
theorem respond_rdata_cases (resp : Response) {t : Txn} (h : s.phase = .awaitingResponse t) :
    (respond resp s).rdata = s.rdata ∨
      (t.op.isWrite = false ∧ (respond resp s).rvalid = true ∧ (respond resp s).outcome = .complete) := by
  obtain ⟨o, rv, an, rd, e, -, -, -, valid, invalid, -⟩ := respond_cases resp h
  rw [e]
  cases rv with
  | false => exact .inl (invalid rfl)
  | true =>
    obtain ⟨complete, -, value⟩ := valid rfl
    exact .inr ⟨isWrite_eq_false_of_readValue value, rfl, complete⟩

end Rdata

/-! ### States that differ in a dead RDATA (R26) -/

/-- The state with another content of RDATA. -/
def State.withRdata (s : State) (v : Half) : State := { s with rdata := v }

section DeadRdata

variable {s s' : State} (v : Half)

@[simp] theorem withRdata_rvalid : (s.withRdata v).rvalid = s.rvalid := rfl
@[simp] theorem withRdata_err : (s.withRdata v).err = s.err := rfl
@[simp] theorem withRdata_crc : (s.withRdata v).crc = s.crc := rfl
@[simp] theorem withRdata_draws : (s.withRdata v).draws = s.draws := rfl
@[simp] theorem withRdata_phase : (s.withRdata v).phase = s.phase := rfl
@[simp] theorem withRdata_offline : (s.withRdata v).offline = s.offline := rfl
@[simp] theorem withRdata_hostActs : (s.withRdata v).hostActs = s.hostActs := rfl
@[simp] theorem statusWord_withRdata : statusWord (s.withRdata v) = statusWord s := rfl
@[simp] theorem configWord_withRdata : configWord (s.withRdata v) = configWord s := rfl

theorem sameButDeadRdata_withRdata (dead : s.rvalid = false) : SameButDeadRdata s (s.withRdata v) := ⟨dead, rfl⟩

theorem readPort_withRdata (dead : s.rvalid = false) (index : Byte) :
    readPort index (s.withRdata v) = readPort index s := by
  simp [readPort, dead]

/-- The two answers are one state, or they differ still in RDATA alone, and it holds no value. -/
def Unobserved (s' t' : State) : Prop := t' = s' ∨ SameButDeadRdata s' t'

theorem unobserved_withRdata (dead : s.rvalid = false) : Unobserved s (s.withRdata v) :=
  .inr (sameButDeadRdata_withRdata v dead)

/-! ### No move reads RDATA -/

theorem accept_withRdata {body : State → State} (blind : ∀ s, body (s.withRdata v) = (body s).withRdata v)
    (h : accept body s = .next s') : accept body (s.withRdata v) = .next (s'.withRdata v) := by
  rcases accept_cases h with ⟨busy, rfl⟩ | ⟨idle, rfl⟩
  · exact accept_busy body busy
  · rw [← blind]
    exact accept_idle body idle

theorem busCommand_withRdata (op : BusOp) (a7 : Addr7) (cmd : Byte) (d16 : Half) (s : State) :
    busCommand op a7 cmd d16 (s.withRdata v) = (busCommand op a7 cmd d16 s).withRdata v := by
  rw [busCommand, busCommand, withRdata_offline]
  split_ifs <;> rfl

theorem exec_withRdata {i : Instr} (h : exec i s = .next s') :
    exec i (s.withRdata v) = .next (s'.withRdata v) := by
  rw [exec_eq_accept] at h ⊢
  refine accept_withRdata v (fun s => ?_) h
  cases i with
  | nop | setmode | crcclr | crcbyte => rfl
  | rdw | wrw | rdb | wrb | rcv | snd | ara => exact busCommand_withRdata v ..

theorem commandPort_withRdata {w : CmdWord} (h : commandPort w s = .next s') :
    commandPort w (s.withRdata v) = .next (s'.withRdata v) := by
  unfold commandPort at h ⊢
  cases d : decode w with
  | command i =>
    rw [d] at h
    exact exec_withRdata v h
  | illegal why =>
    rw [d] at h
    exact accept_withRdata v (fun _ => rfl) h

/-- No command sets RVALID. -/
theorem commandPort_keeps_dead {w : CmdWord} (h : commandPort w s = .next s') (dead : s.rvalid = false) :
    s'.rvalid = false := by
  obtain ⟨t, answer, e⟩ := commandPort_cases w s
  rw [h] at answer
  cases answer
  cases e with
  | refused | issued => rfl
  | _ => exact dead

theorem hostAct_withRdata {a : HostAct} (dead : s.rvalid = false) (h : hostAct a s = .next s') :
    ∃ t', hostAct a (s.withRdata v) = .next t' ∧ Unobserved s' t' := by
  cases a with
  | command w =>
    exact ⟨_, commandPort_withRdata v h, unobserved_withRdata v (commandPort_keeps_dead h dead)⟩
  | readRegister index =>
    cases h
    have same : readRegister index (s.withRdata v) = (readRegister index s).withRdata v := by
      rw [readRegister, readPort_withRdata v dead]
      rfl
    exact ⟨_, rfl, same ▸ unobserved_withRdata v dead⟩
  | reset =>
    cases h
    exact ⟨_, rfl, .inl rfl⟩

theorem hostMove_withRdata (dead : s.rvalid = false) (h : hostMove s = .next s') :
    ∃ t', hostMove (s.withRdata v) = .next t' ∧ Unobserved s' t' := by
  unfold hostMove at h ⊢
  rw [withRdata_hostActs]
  cases acts : s.hostActs with
  | nil =>
    rw [acts] at h
    cases h
    exact ⟨_, rfl, unobserved_withRdata v dead⟩
  | cons a rest =>
    rw [acts] at h
    exact hostAct_withRdata (s := { s with hostActs := rest }) v dead h

theorem transmit_withRdata (dead : s.rvalid = false) : Unobserved (transmit s) (transmit (s.withRdata v)) := by
  unfold transmit
  rw [withRdata_phase]
  cases s.phase <;> exact unobserved_withRdata v dead

/-- A result either brings a value into RDATA or clears RVALID. -/
theorem applyResult_withRdata (op : BusOp) (res : Result) (data : List Byte) :
    Unobserved (applyResult op res data s) (applyResult op res data (s.withRdata v)) := by
  cases res with
  | complete =>
    unfold applyResult
    cases readValue op data with
    | some value => exact .inl rfl
    | none => exact .inr ⟨rfl, rfl⟩
  | _ => exact .inr ⟨rfl, rfl⟩

theorem respond_withRdata (dead : s.rvalid = false) (resp : Response) :
    Unobserved (respond resp s) (respond resp (s.withRdata v)) := by
  unfold respond
  rw [withRdata_phase]
  cases s.phase with
  | awaitingResponse t => exact applyResult_withRdata (s := closeTransaction ..) v ..
  | _ => exact unobserved_withRdata v dead

theorem bridgeMove_withRdata (dead : s.rvalid = false) :
    Unobserved (bridgeMove s) (bridgeMove (s.withRdata v)) := by
  by_cases waits : (∀ t, s.phase ≠ .awaitingResponse t) ∨ s.bridge = []
  · rw [bridgeMove_waits s waits, bridgeMove_waits (s.withRdata v) waits]
    exact unobserved_withRdata v dead
  · push Not at waits
    obtain ⟨⟨t, awaiting⟩, some_response⟩ := waits
    obtain ⟨resp, rest, bridge⟩ := List.exists_cons_of_ne_nil some_response
    rw [bridgeMove_responds awaiting bridge, bridgeMove_responds (s := s.withRdata v) awaiting bridge]
    exact respond_withRdata (s := { s with bridge := rest }) v dead resp

theorem move_withRdata {a : Agent} (dead : s.rvalid = false) (h : move a s = .next s') :
    ∃ t', move a (s.withRdata v) = .next t' ∧ Unobserved s' t' := by
  cases a with
  | host => exact hostMove_withRdata v dead h
  | block =>
    cases h
    exact ⟨_, rfl, transmit_withRdata v dead⟩
  | bridge =>
    cases h
    exact ⟨_, rfl, bridgeMove_withRdata v dead⟩

theorem step_withRdata (dead : s.rvalid = false) (h : step s = .next s') :
    ∃ t', step (s.withRdata v) = .next t' ∧ Unobserved s' t' := by
  rw [step, agentStep_eq_move] at h ⊢
  exact move_withRdata (s := s.popTurn) v dead h

end DeadRdata

/-! ### The obligations -/

/-- Settles O43: the transitions of `step_phase_cases`, sorted by the phase they start from. -/
theorem phaseTransitions : Obligations.PhaseTransitions := by
  unfold Obligations.PhaseTransitions
  intro s s' h
  rcases step_phase_cases h with kept | ⟨ended, now⟩ | ⟨idle, issued⟩ | ⟨t, framed, sent⟩ | ⟨t, awaiting, ended⟩
  · exact ⟨fun idle => .inl (kept.trans idle), fun t framed => .inl (kept.trans framed),
      fun t awaiting => .inl (kept.trans awaiting)⟩
  · exact ⟨fun _ => .inl ended, fun _ _ => .inr (.inr ⟨ended, now⟩), fun _ _ => .inr (.inr ⟨ended, now⟩)⟩
  · refine ⟨fun _ => .inr issued, ?_, ?_⟩ <;> simp [idle]
  · simp [framed, sent]
  · simp [awaiting, ended]

/-- Settles O47: of all effects of a step only a completed read and reset write RDATA. -/
theorem rdataChangesOnlyWithAValue : Obligations.RdataChangesOnlyWithAValue := by
  unfold Obligations.RdataChangesOnlyWithAValue
  intro s s' h changed
  cases step_cases h with
  | waits => exact absurd rfl changed
  | command w rest ha now s' e => exact absurd e.rdata_eq changed
  | reads index rest ha now => exact absurd rfl changed
  | reset rest ha now => exact .inl now
  | transmits t ph mv => exact absurd rfl changed
  | responds t ph mv resp rest hb =>
    obtain ⟨read, valid, complete⟩ := (respond_rdata_cases resp (s := s.popResponse) ph).resolve_left changed
    exact .inr ⟨t, ph, read, mv, valid, complete⟩

/-- Settles O48: every move of a machine with another dead RDATA is the same move, and no readable index shows it. -/
theorem deadRdataIsNeverObserved : Obligations.DeadRdataIsNeverObserved := by
  unfold Obligations.DeadRdataIsNeverObserved
  intro s t ⟨dead, differs⟩
  obtain ⟨v, rfl⟩ : ∃ v, t = s.withRdata v := ⟨t.rdata, differs⟩
  refine ⟨fun index => (readPort_withRdata _ dead index).symm, fun s' h => ?_⟩
  obtain ⟨t', answer, rfl | still⟩ := step_withRdata v dead h
  · exact .inl answer
  · exact .inr ⟨t', answer, still⟩

end Sys2Proof.Machine

/-! # Responses and their results (42_error_flag_decoder.md)

The bytes that a response's characters stand for (R171), and what the classification of R174 makes of a faithful
response (R184), of a not-acknowledged one (R176), of a write's (R177), and of CRC (R182). -/

namespace Sys2Proof.Machine

/-! ### The bytes of a text (R171) -/

theorem length_tokenBytes : ∀ r : Text, (tokenBytes r).length = r.length / 2
  | [] => rfl
  | [_] => by simp [tokenBytes]
  | _ :: _ :: rest => by
    rw [tokenBytes, List.length_cons, length_tokenBytes rest, List.length_cons, List.length_cons]
    omega

/-- The byte at `k` is spelled by the characters at `2k` and `2k + 1`. -/
theorem getElem?_tokenBytes : ∀ (r : Text) {k : Nat}, 2 * k + 1 < r.length →
    (tokenBytes r)[k]? = some (byteOf (r.getD (2 * k) ' ') (r.getD (2 * k + 1) ' '))
  | [], _, inside => absurd inside (Nat.not_lt_zero _)
  | [_], k, inside => absurd inside (by simp)
  | _ :: _ :: _, 0, _ => rfl
  | _ :: _ :: rest, k + 1, inside => by
    rw [tokenBytes, List.getElem?_cons_succ, getElem?_tokenBytes rest (by simp only [List.length_cons] at inside; omega)]
    rfl

section Region

variable (t : Txn) (r : Text)

theorem expectedRegion_append_remainder : expectedRegion t r ++ remainder t r = r :=
  List.take_append_drop _ r

theorem regionFull_iff : regionFull t r = true ↔
    2 * t.m ≤ r.length ∧ ∀ c ∈ r.take (2 * t.m), isHexDigit c = true := by
  simp [regionFull, expectedRegion]

theorem regionFull_of_no_requests (none : t.m = 0) : regionFull t r = true := by
  simp [regionFull_iff, none]

variable {t r}

/-- The byte at `k` of a full region, by the response's own characters. -/
theorem getElem?_tokenBytes_expectedRegion (full : regionFull t r = true) {k : Nat} (requested : k < t.m) :
    (tokenBytes (expectedRegion t r))[k]? = some (byteOf (r.getD (2 * k) ' ') (r.getD (2 * k + 1) ' ')) := by
  have long := le_length_of_regionFull full
  rw [expectedRegion, getElem?_tokenBytes _ (by simp; omega)]
  simp [show 2 * k < 2 * t.m by omega, show 2 * k + 1 < 2 * t.m by omega]

theorem responseData_of_full (full : regionFull t r = true) :
    responseData t r = (tokenBytes (expectedRegion t r)).take t.n := by
  rw [responseData, if_pos full]

theorem length_responseData (full : regionFull t r = true) (carried : t.n ≤ t.m) : (responseData t r).length = t.n := by
  have long := le_length_of_regionFull full
  rw [responseData_of_full full, List.length_take, length_tokenBytes, expectedRegion, List.length_take]
  omega

theorem getElem?_responseData (full : regionFull t r = true) (carried : t.n ≤ t.m) {k : Nat} (inside : k < t.n) :
    (responseData t r)[k]? = some (byteOf (r.getD (2 * k) ' ') (r.getD (2 * k + 1) ' ')) := by
  rw [responseData_of_full full, List.getElem?_take_of_lt inside,
    getElem?_tokenBytes_expectedRegion full (by omega)]

theorem receivedPec_of_full (full : regionFull t r = true) (requested : t.n < t.m) :
    receivedPec t r = byteOf (r.getD (2 * t.n) ' ') (r.getD (2 * t.n + 1) ' ') := by
  rw [receivedPec, List.getD_eq_getElem?_getD, getElem?_tokenBytes_expectedRegion full requested]
  rfl

end Region

/-! ### Bytes in their TX spelling -/

theorem isHexDigit_hexDigit (v : BitVec 4) : isHexDigit (hexDigit v) = true := by
  revert v
  decide

theorem byteOf_hex2 (b : Byte) : byteOf (hexDigit (b.extractLsb' 4 4)) (hexDigit (b.extractLsb' 0 4)) = b := by
  rw [byteOf, hexVal_hexDigit, hexVal_hexDigit]
  exact (BitVec.extractLsb'_append_extractLsb'_eq_extractLsb' rfl).trans BitVec.extractLsb'_eq_self

/-- The spelling of some bytes, two digits each, back to back. -/
def spellBytes (bs : List Byte) : Text := bs.flatMap hex2

theorem length_spellBytes (bs : List Byte) : (spellBytes bs).length = 2 * bs.length := by
  simp [spellBytes, hex2, Nat.mul_comm]

theorem isHexDigit_of_mem_spellBytes {bs : List Byte} {c : Char} (h : c ∈ spellBytes bs) : isHexDigit c = true := by
  obtain ⟨b, -, mem⟩ := List.mem_flatMap.1 h
  simp only [hex2, List.mem_cons, List.not_mem_nil, or_false] at mem
  rcases mem with rfl | rfl <;> exact isHexDigit_hexDigit _

theorem tokenBytes_spellBytes (bs : List Byte) : tokenBytes (spellBytes bs) = bs := by
  induction bs with
  | nil => rfl
  | cons b bs ih => exact congrArg₂ List.cons (byteOf_hex2 b) ih

section Spelled

variable {t : Txn} {bs : List Byte} (all : bs.length = t.m) (after : Text)

include all

theorem expectedRegion_spellBytes : expectedRegion t (spellBytes bs ++ after) = spellBytes bs :=
  List.take_left' (by rw [length_spellBytes, all])

theorem regionFull_spellBytes : regionFull t (spellBytes bs ++ after) = true := by
  have hex : (spellBytes bs).all isHexDigit = true := List.all_eq_true.2 fun _ => isHexDigit_of_mem_spellBytes
  simp [regionFull, expectedRegion_spellBytes all after, length_spellBytes, all, hex]

theorem responseData_spellBytes : responseData t (spellBytes bs ++ after) = bs.take t.n := by
  rw [responseData_of_full (regionFull_spellBytes all after), expectedRegion_spellBytes all, tokenBytes_spellBytes]

theorem receivedPec_spellBytes : receivedPec t (spellBytes bs ++ after) = bs.getD t.n 0 := by
  rw [receivedPec, expectedRegion_spellBytes all, tokenBytes_spellBytes]

end Spelled

/-! ### Sentinels are no hex digits (R8) -/

section Sentinels

variable {p : Params} (tokens : p.tokens.wf = true)

include tokens

theorem isHexDigit_nackCh : isHexDigit p.tokens.nackCh = false := by
  simp only [TokenMap.wf, Bool.and_eq_true, Bool.not_eq_true'] at tokens
  tauto

theorem isHexDigit_offlineCh : isHexDigit p.tokens.offlineCh = false := by
  simp only [TokenMap.wf, Bool.and_eq_true, Bool.not_eq_true'] at tokens
  tauto

theorem nackCh_not_mem_of_hex {r : Text} (hex : ∀ c ∈ r, isHexDigit c = true) : p.tokens.nackCh ∉ r :=
  fun mem => Bool.eq_false_iff.1 (isHexDigit_nackCh tokens) (hex _ mem)

theorem offlineCh_not_mem_of_hex {r : Text} (hex : ∀ c ∈ r, isHexDigit c = true) : p.tokens.offlineCh ∉ r :=
  fun mem => Bool.eq_false_iff.1 (isHexDigit_offlineCh tokens) (hex _ mem)

theorem sawOffline_spellBytes_append (bs : List Byte) (after : Text) :
    sawOffline p (spellBytes bs ++ after) = after.contains p.tokens.offlineCh := by
  have absent := offlineCh_not_mem_of_hex tokens fun _ => isHexDigit_of_mem_spellBytes (bs := bs)
  rw [Bool.eq_iff_iff, sawOffline_eq_true_iff, List.contains_iff_mem, List.mem_append, or_iff_right absent]

end Sentinels

/-! ### The classification in the cases that the rules single out -/

section Classified

variable {p : Params} {t : Txn} {r : Text}

theorem classifyText_of_pecMismatch (pec : PecMismatch p t r) :
    classifyText p t r = ⟨.pecMismatch, responseData t r, sawOffline p r, crcAfter p t r⟩ := by
  have cls := classifyText_class p t r
  generalize classifyText p t r = c at cls ⊢
  cases cls with
  | pecMismatch => rfl
  | _ => contradiction

theorem classifyText_of_nack (pec : ¬PecMismatch p t r) (off : p.tokens.offlineCh ∉ r) (nack : p.tokens.nackCh ∈ r) :
    classifyText p t r = ⟨if t.op = .ara then .noResponder else .notAcked, [], false, crcAfter p t r⟩ := by
  have cls := classifyText_class p t r
  generalize classifyText p t r = c at cls ⊢
  cases cls with
  | noResponder _ _ _ ara => rw [if_pos ara]
  | notAcked _ _ _ ara => rw [if_neg ara]
  | _ => contradiction

theorem classifyText_of_complete (pec : ¬PecMismatch p t r) (off : p.tokens.offlineCh ∉ r)
    (nack : p.tokens.nackCh ∉ r) (full : regionFull t r = true) (exactly : r.length = 2 * t.m) :
    classifyText p t r = ⟨.complete, responseData t r, false, crcAfter p t r⟩ := by
  have cls := classifyText_class p t r
  generalize classifyText p t r = c at cls ⊢
  cases cls with
  | complete => rfl
  | timeout _ _ _ short => omega
  | unread _ _ _ _ more => omega
  | notHex _ _ _ _ notFull => rw [full] at notFull; cases notFull
  | _ => contradiction

theorem complete_inv (h : (classifyText p t r).res = .complete) :
    ¬PecMismatch p t r ∧ p.tokens.offlineCh ∉ r ∧ p.tokens.nackCh ∉ r ∧ regionFull t r = true ∧
      r.length = 2 * t.m := by
  have cls := classifyText_class p t r
  generalize classifyText p t r = c at cls h
  cases cls with
  | complete pec off nack full exactly => exact ⟨pec, off, nack, full, exactly⟩
  | _ => cases h

theorem pecMismatch_inv (h : (classifyText p t r).res = .pecMismatch) : PecMismatch p t r := by
  have cls := classifyText_class p t r
  generalize classifyText p t r = c at cls h
  cases cls with
  | pecMismatch pec => exact pec
  | _ => cases h

theorem crcAfter_of_full (full : regionFull t r = true) :
    crcAfter p t r = crc8 p.crcInit (t.cb ++ responseData t r) := by
  rw [crcAfter, if_pos full]

theorem crcAfter_of_not_full (notFull : regionFull t r = false) : crcAfter p t r = crc8 p.crcInit t.cb := by
  rw [crcAfter, notFull]
  rfl

/-- A response that carries no data, as a write's, leaves CRC over the bytes sent. -/
theorem crcAfter_of_no_data (none : t.n = 0) : crcAfter p t r = crc8 p.crcInit t.cb := by
  cases full : regionFull t r with
  | true => rw [crcAfter_of_full full, responseData_of_full full, none, List.take_zero, List.append_nil]
  | false => exact crcAfter_of_not_full full

end Classified

/-! ### The PEC of a captured transaction -/

theorem ndata_pos_iff (op : BusOp) : 0 < ndata op ↔ op.isWrite = false := by
  cases op <;> decide

theorem nrequested_of_checked_read {op : BusOp} (read : op.isWrite = false) : nrequested op true = ndata op + 1 := by
  simp [nrequested, (ndata_pos_iff op).2 read]

/-- Only a checked read has a PEC to test, and it is the byte after the data (R175). -/
theorem pecMismatch_capture_iff {p : Params} {op : BusOp} {a7 : Addr7} {cmd : Byte} {d16 : Half} {pec : Bool} {t : Txn}
    (captured : t = capture p op a7 cmd d16 pec) {r : Text} (full : regionFull t r = true) :
    PecMismatch p t r ↔ pec = true ∧ op.isWrite = false ∧
      byteOf (r.getD (2 * t.n) ' ') (r.getD (2 * t.n + 1) ' ') ≠ crc8 p.crcInit (t.cb ++ responseData t r) := by
  have mode : t.pec = pec := by rw [captured]; rfl
  have data : t.n = ndata op := by rw [captured]; rfl
  have requests : t.m = nrequested op pec := by rw [captured]; rfl
  rw [PecMismatch, mode, data, ndata_pos_iff, crcAfter_of_full full, ← data]
  refine and_congr_right fun checked => and_congr_right fun read => ?_
  have requested : t.n < t.m := by
    rw [requests, checked, nrequested_of_checked_read read, data]
    exact Nat.lt_succ_self _
  rw [receivedPec_of_full full requested]
  simp [full]

/-! ### What a response reports -/

/-- The outcome that R180 and R181 report for a classification. -/
def Result.outcome : Result → OutcomeCode
  | .complete => .complete
  | .noResponder => .complete
  | .notAcked => .notAcked
  | .bridgeOffline => .bridgeOffline
  | .pecMismatch => .pecMismatch
  | .desync => .desync
  | .timeout => .timeout

theorem Result.outcome_eq_complete_iff (res : Result) :
    res.outcome = .complete ↔ res = .complete ∨ res = .noResponder := by
  cases res <;> simp [Result.outcome]

theorem Result.outcome_eq_pecMismatch_iff (res : Result) : res.outcome = .pecMismatch ↔ res = .pecMismatch := by
  cases res <;> simp [Result.outcome]

theorem applyResult_outcome (op : BusOp) (res : Result) (data : List Byte) (s : State) :
    (applyResult op res data s).outcome = res.outcome := by
  cases res with
  | complete =>
    unfold applyResult
    cases readValue op data <;> rfl
  | _ => rfl

section Respond

variable {s : State} {t : Txn} (awaiting : s.phase = .awaitingResponse t)

include awaiting

theorem respond_outcome (resp : Response) :
    (respond resp s).outcome = (classify s.params t resp).res.outcome := by
  rw [respond_awaiting resp awaiting, applyResult_outcome]

theorem respond_crc (resp : Response) : (respond resp s).crc = (classify s.params t resp).crcOut := by
  obtain ⟨o, rv, an, rd, e, -⟩ := respond_cases resp awaiting
  rw [e]

theorem respond_araNone_iff (resp : Response) :
    (respond resp s).araNone = true ↔ (classify s.params t resp).res = .noResponder := by
  obtain ⟨o, rv, an, rd, e, -, -, -, -, -, ara⟩ := respond_cases resp awaiting
  rw [e]
  exact ara

theorem respond_some_crc (r : Text) : (respond (some r) s).crc = crcAfter s.params t r := by
  rw [respond_crc awaiting, classify, (classifyText_class s.params t r).crcOut_eq]

/-- COMPLETE with ARA_NONE = 0 is a completed transaction, not an ARA without a responder. -/
theorem complete_of_respond {r : Text} (outcome : (respond (some r) s).outcome = .complete)
    (answered : (respond (some r) s).araNone = false) : (classifyText s.params t r).res = .complete := by
  have responder := mt (respond_araNone_iff awaiting (some r)).2 (Bool.eq_false_iff.1 answered)
  rw [respond_outcome awaiting, Result.outcome_eq_complete_iff] at outcome
  exact outcome.resolve_right responder

theorem pecMismatch_of_respond {r : Text} (outcome : (respond (some r) s).outcome = .pecMismatch) :
    PecMismatch s.params t r := by
  rw [respond_outcome awaiting, Result.outcome_eq_pecMismatch_iff] at outcome
  exact pecMismatch_inv outcome

end Respond

/-! ### The obligations -/

/-- Settles O36: the region is the first `2m` characters, and its tokens are read two characters at a time. -/
theorem expectedRegion_spec : Obligations.ExpectedRegion := by
  unfold Obligations.ExpectedRegion
  exact fun t r => ⟨expectedRegion_append_remainder t r, List.length_take, regionFull_iff t r, responseData_of_not_full,
    fun full carried => ⟨length_responseData full carried, fun k => getElem?_responseData full carried⟩,
    regionFull_of_no_requests t r⟩

/-- Settles O38: COMPLETE needs all the tests of R174 to fail; for hex digits of the right number only the PEC's test
is left. -/
theorem completeExactlyForAFaithfulResponse : Obligations.CompleteExactlyForAFaithfulResponse := by
  unfold Obligations.CompleteExactlyForAFaithfulResponse
  intro p op a7 cmd d16 pec resp t tokens captured
  cases resp with
  | none => simp [classify]
  | some r =>
    simp only [classify, Option.some.injEq, exists_eq_left']
    constructor
    · intro complete
      obtain ⟨matching, off, nack, full, exactly⟩ := complete_inv complete
      obtain ⟨-, hex⟩ := (regionFull_iff t r).1 full
      rw [List.take_of_length_le exactly.le] at hex
      rw [classifyText_of_complete matching off nack full exactly]
      refine ⟨exactly, hex, fun checked read => ?_⟩
      by_contra differs
      exact matching ((pecMismatch_capture_iff captured full).2 ⟨checked, read, differs⟩)
    · rintro ⟨exactly, hex, matching⟩
      have full : regionFull t r = true :=
        (regionFull_iff t r).2 ⟨exactly.ge, fun c hc => hex c (List.mem_of_mem_take hc)⟩
      by_cases pecTest : PecMismatch p t r
      · rw [classifyText_of_pecMismatch pecTest] at matching
        obtain ⟨checked, read, differs⟩ := (pecMismatch_capture_iff captured full).1 pecTest
        exact absurd (matching checked read) differs
      · rw [classifyText_of_complete pecTest (offlineCh_not_mem_of_hex tokens hex) (nackCh_not_mem_of_hex tokens hex)
          full exactly]

/-- Settles O39: the sentinel is no hex digit, so the PEC is not tested and step 3 of R174 decides. -/
theorem nackReturnsNoValue : Obligations.NackReturnsNoValue := by
  unfold Obligations.NackReturnsNoValue
  intro s t r tokens awaiting nack off untested
  have pec : ¬PecMismatch s.params t r := by
    rintro ⟨checked, -, full, -⟩
    rcases untested with unchecked | inRegion
    · rw [checked] at unchecked
      cases unchecked
    · obtain ⟨-, hex⟩ := (regionFull_iff t r).1 full
      exact nackCh_not_mem_of_hex tokens hex inRegion
  rw [respond_awaiting _ awaiting, classify, classifyText_of_nack pec off nack]
  by_cases ara : t.op = .ara
  · simp [ara, applyResult, errFlag]
  · simp [ara, applyResult, errFlag]

/-- Settles O40: a write asks for no byte, so its region is full and its PEC is not tested; the sentinels and what else
stands in the response decide. -/
theorem writeResponses : Obligations.WriteResponses := by
  unfold Obligations.WriteResponses
  rintro s t a7 cmd d16 op pec write captured awaiting
  have data : t.n = 0 := by rw [captured]; exact ndata_of_write write
  have requests : t.m = 0 := by rw [captured]; exact nrequested_of_write pec write
  have not_ara : t.op ≠ .ara := by rw [captured]; rintro ⟨⟩; cases write
  refine ⟨respond_outcome awaiting none, fun r => ?_⟩
  rw [respond_outcome awaiting, classify]
  have cls := classifyText_class s.params t r
  generalize classifyText s.params t r = c at cls ⊢
  cases cls with
  | pecMismatch mismatch =>
    obtain ⟨-, carries, -⟩ := mismatch
    omega
  | bridgeOffline _ off => simp [Result.outcome, off, List.ne_nil_of_mem off]
  | noResponder _ _ _ ara => exact absurd ara not_ara
  | notAcked _ off nack => simp [Result.outcome, off, nack, List.ne_nil_of_mem nack]
  | timeout _ _ _ short => simp [requests] at short
  | notHex _ _ _ _ notFull => simp [regionFull_of_no_requests t r requests] at notFull
  | unread _ off nack _ more =>
    have ne : r ≠ [] := by rintro rfl; simp at more
    simp [Result.outcome, off, nack, ne]
  | complete _ off nack _ exactly =>
    have nil : r = [] := by simpa [requests] using exactly
    subst nil
    simp [Result.outcome]

/-- Settles O41: CRC is `crcAfter` of the response, which the PEC test compares with the PEC received. -/
theorem crcAfterTheResponse : Obligations.CrcAfterTheResponse := by
  unfold Obligations.CrcAfterTheResponse
  intro s t awaiting
  refine ⟨respond_crc awaiting none, fun r => ?_⟩
  rw [respond_some_crc awaiting]
  refine ⟨crcAfter_of_full, crcAfter_of_not_full, fun outcome answered checked carried => ?received,
    fun outcome => ?mismatch, crcAfter_of_no_data⟩
  case received =>
    obtain ⟨matching, -, -, full, -⟩ := complete_inv (complete_of_respond awaiting outcome answered)
    by_contra differs
    exact matching ⟨checked, carried, full, Ne.symm differs⟩
  case mismatch =>
    obtain ⟨-, -, -, differs⟩ := pecMismatch_of_respond awaiting outcome
    exact differs.symm

/-- Settles O58: the region is full, so the PEC is tested first, and its mismatch decides whatever follows. -/
theorem checkedReadWordRejectsAWrongPec : Obligations.CheckedReadWordRejectsAWrongPec := by
  unfold Obligations.CheckedReadWordRejectsAWrongPec
  intro s a7 cmd hi lo wrong after t tokens captured awaiting differs
  have spelled : hex2 lo ++ hex2 hi ++ hex2 wrong ++ after = spellBytes [lo, hi, wrong] ++ after := rfl
  have all : [lo, hi, wrong].length = t.m := by rw [captured]; rfl
  have carried : t.n = 2 := by rw [captured]; rfl
  have full := regionFull_spellBytes all after
  have data : responseData t (spellBytes [lo, hi, wrong] ++ after) = [lo, hi] := by
    rw [responseData_spellBytes all, carried]; rfl
  have crc : crcAfter s.params t (spellBytes [lo, hi, wrong] ++ after) = crc8 s.params.crcInit (t.cb ++ [lo, hi]) := by
    rw [crcAfter_of_full full, data]
  have mismatch : PecMismatch s.params t (spellBytes [lo, hi, wrong] ++ after) := by
    refine ⟨by rw [captured]; rfl, by rw [carried]; decide, full, ?_⟩
    rw [receivedPec_spellBytes all, carried, crc]
    exact differs
  rw [spelled, respond_awaiting _ awaiting, classify, classifyText_of_pecMismatch mismatch, crc,
    sawOffline_spellBytes_append tokens]
  rfl

end Sys2Proof.Machine

/-! # Whole transactions (70_reset_and_hazards.md section 4)

The steps of the natural order from a command word to its outcome (R250, R251), and the two transactions that the
spec runs in full. -/

namespace Sys2Proof.Machine

/-! ### Runs and the bridge's step -/

theorem run_succ_of_step {s s' : State} (h : step s = .next s') (k : Nat) :
    Sys2Proof.core.run (k + 1) s = Sys2Proof.core.run k s' := by
  have answer : Sys2Proof.core.step s = .next s' := h
  simp only [Host.Core.run, answer]

section Awaiting

variable {s : State} {t : Txn} (awaiting : s.phase = .awaitingResponse t) (turns : s.turns = [])

include awaiting turns

theorem step_eq_bridgeMove : step s = .next (bridgeMove s) := by
  have turn : naturalTurn s.phase = .bridge := by rw [awaiting]; rfl
  rw [step_of_no_turns turns, turn, move]

theorem step_of_awaiting {resp : Response} {rest : List Response} (bridge : s.bridge = resp :: rest) :
    step s = .next (respond resp { s with bridge := rest }) := by
  rw [step_eq_bridgeMove awaiting turns, bridgeMove_responds awaiting bridge]

/-- Without a response the block waits: the bridge has no move. -/
theorem step_of_awaiting_nothing (bridge : s.bridge = []) : step s = .next s := by
  rw [step_eq_bridgeMove awaiting turns, bridgeMove_waits s (.inr bridge)]

end Awaiting

section Run

variable {s : State} (turns : s.turns = []) {resp : Response} {rest : List Response} (bridge : s.bridge = resp :: rest)

include turns bridge

/-- Transmission and response. -/
theorem run_two_of_framed {t : Txn} {c : Classified} (framed : s.phase = .framed t)
    (classified : classify s.params t resp = c) :
    Sys2Proof.core.run 2 s = .next (applyResult t.op c.res c.data { s with
      phase := .idle, bridge := rest, txlog := s.txlog ++ [t.line], rxlog := s.rxlog ++ [resp], crc := c.crcOut,
      offline := s.offline || c.offlineSeen }) := by
  have sent := step_of_framed framed turns
  have answered := step_of_awaiting (s := { s with phase := .awaitingResponse t, txlog := s.txlog ++ [t.line] })
    rfl turns bridge
  rw [run_succ_of_step sent, run_succ_of_step answered, respond_awaiting (t := t) resp rfl, classified]
  rfl

/-- Issue, transmission and response of the bus command at the head of the host's queue. -/
theorem run_three_of_bus_command {i : Instr} {op : BusOp} {a7 : Addr7} {cmd : Byte} {d16 : Half} {acts : List HostAct}
    {c : Classified} (parts : i.busParts = some (op, a7, cmd, d16)) (idle : s.phase = .idle)
    (online : s.offline = false) (head : s.hostActs = .command (encode i) :: acts)
    (classified : classify s.params (capture s.params op a7 cmd d16 s.pecEn) resp = c) :
    Sys2Proof.core.run 3 s = .next (applyResult op c.res c.data { s with
      hostActs := acts, bridge := rest, txlog := s.txlog ++ [(capture s.params op a7 cmd d16 s.pecEn).line],
      rxlog := s.rxlog ++ [resp], crc := c.crcOut, offline := s.offline || c.offlineSeen, rvalid := false,
      araNone := false, outcome := .none, err := 0x00 }) := by
  have issued : step s = .next (issue op a7 cmd d16 { s with hostActs := acts }) := by
    rw [step_of_command_of_idle idle turns head, commandPort_command (decode_encode i),
      ← busCommand_online (s := { s with hostActs := acts }) op a7 cmd d16 online]
    exact exec_busParts (s := { s with hostActs := acts }) parts idle
  rw [run_succ_of_step issued, run_two_of_framed (s := issue op a7 cmd d16 { s with hostActs := acts }) turns bridge
    rfl classified, ← idle]
  rfl

end Run

/-! ### Answers that complete a transaction -/

section Answers

variable {p : Params} {t : Txn}

/-- The data asked for and the PEC over covered bytes and data, with nothing after them, complete a checked read. -/
theorem classifyText_of_checked_answer (tokens : p.tokens.wf = true) {data : List Byte} {pec : Byte}
    (carried : data.length = t.n) (requested : t.m = t.n + 1) (valid : pec = crc8 p.crcInit (t.cb ++ data)) :
    classifyText p t (spellBytes (data ++ [pec])) = ⟨.complete, data, false, pec⟩ := by
  have all : (data ++ [pec]).length = t.m := by
    rw [List.length_append, carried, requested, List.length_singleton]
  have hex : ∀ c ∈ spellBytes (data ++ [pec]), isHexDigit c = true := fun _ => isHexDigit_of_mem_spellBytes
  have full := regionFull_spellBytes all []
  have returned := responseData_spellBytes all []
  have received := receivedPec_spellBytes all []
  rw [List.append_nil] at full returned received
  rw [← carried, List.take_left] at returned
  rw [← carried, List.getD_append_right _ _ _ _ le_rfl, Nat.sub_self, List.getD_cons_zero] at received
  have recomputed : crcAfter p t (spellBytes (data ++ [pec])) = pec := by
    rw [crcAfter_of_full full, returned, valid]
  have matching : ¬PecMismatch p t (spellBytes (data ++ [pec])) := by
    rintro ⟨-, -, -, differs⟩
    exact differs (received.trans recomputed.symm)
  have exactly : (spellBytes (data ++ [pec])).length = 2 * t.m := by rw [length_spellBytes, all]
  rw [classifyText_of_complete matching (offlineCh_not_mem_of_hex tokens hex) (nackCh_not_mem_of_hex tokens hex) full
    exactly, returned, recomputed]

/-- An empty line completes a write. -/
theorem classifyText_of_write_answer (data : t.n = 0) (requests : t.m = 0) :
    classifyText p t [] = ⟨.complete, [], false, crc8 p.crcInit t.cb⟩ := by
  have full := regionFull_of_no_requests t [] requests
  have unchecked : ¬PecMismatch p t [] := by
    rintro ⟨-, carries, -⟩
    omega
  rw [classifyText_of_complete unchecked List.not_mem_nil List.not_mem_nil full (by rw [requests]; rfl),
    crcAfter_of_no_data data, responseData_of_full full, data, List.take_zero]

end Answers

/-! ### The obligations -/

/-- Settles O56: transmission and response, each by its own move; the bridge without a response has none. -/
theorem transactionEndsWithItsResponse : Obligations.TransactionEndsWithItsResponse := by
  unfold Obligations.TransactionEndsWithItsResponse
  refine ⟨fun s t resp rest framed turns bridge => ?ends, fun s t => step_of_awaiting_nothing⟩
  refine ⟨_, run_two_of_framed turns bridge framed rfl, ?_⟩
  obtain ⟨o, rv, an, rd, result, reported, legal, -⟩ := applyResult_cases t.op (classify s.params t resp).res
    (classify s.params t resp).data _
  rw [result]
  exact ⟨rfl, reported, legal, rfl, rfl, rfl, rfl⟩

/-- Settles O57: the answer is the region in full and no more, with the PEC that the block recomputes. -/
theorem checkedReadWordEndToEnd : Obligations.CheckedReadWordEndToEnd := by
  unfold Obligations.CheckedReadWordEndToEnd
  intro s a7 cmd hi lo acts rest cb tokens idle online checked turns bytes head bridge
  have sent : (capture s.params .rdw a7 cmd 0 s.pecEn).cb = cb := (coveredRead_eq_ite s.params a7 cmd).trans bytes.symm
  have line : (capture s.params .rdw a7 cmd 0 s.pecEn).line = spell s.params.tokens
      [.start, .send (a7 ++ 0#1), .send cmd, .rstart, .send (a7 ++ 1#1), .recv, .recv, .recvLast, .stop] := by
    rw [capture, symbols, readSymbols, recvs_word, writeAddr_eq_append, readAddr_eq_append, checked]
    rfl
  have requested : (capture s.params .rdw a7 cmd 0 s.pecEn).m = 3 := by rw [checked]; rfl
  have answer := classifyText_of_checked_answer (data := [lo, hi]) tokens rfl requested rfl
  rw [sent] at answer
  rw [run_three_of_bus_command turns bridge rfl idle online head answer, line,
    applyResult_complete_of_value (readValue_rdw lo hi), Bool.or_false]

/-- Settles O59: an empty line is all that a write asks for. -/
theorem writeWordEndToEnd : Obligations.WriteWordEndToEnd := by
  unfold Obligations.WriteWordEndToEnd
  intro s a7 cmd hi lo acts rest pec idle online turns bytes head bridge
  have sent : (capture s.params .wrw a7 cmd (hi ++ lo) s.pecEn).cb = [a7 ++ 0#1, cmd, lo, hi] :=
    covered_wrw s.params a7 cmd hi lo
  have line : (capture s.params .wrw a7 cmd (hi ++ lo) s.pecEn).line = spell s.params.tokens
      ([.start, .send (a7 ++ 0#1), .send cmd, .send lo, .send hi] ++
        (if s.pecEn then [.send pec] else []) ++ [.stop]) := by
    rw [capture, symbols_eq_body, bodySymbols, covered_wrw, bytes]
    rfl
  have answer := classifyText_of_write_answer (p := s.params) (t := capture s.params .wrw a7 cmd (hi ++ lo) s.pecEn) rfl
    (nrequested_of_write _ rfl)
  rw [sent, ← bytes] at answer
  rw [run_three_of_bus_command turns bridge rfl idle online head answer, line,
    applyResult_complete_of_no_value rfl, Bool.or_false]

end Sys2Proof.Machine
